-- ==== Sys2Proof/Word.lean ====
section
/-! DEFINITION. The word types of the PCE-4 and the names of its numbered things (00_scope.md, 6 and 7). -/

namespace Sys2Proof

/-- One byte of a record in host memory. -/
abbrev Byte := BitVec 8

/-- A 16-bit field of a record. -/
abbrev Half := BitVec 16

/-- A register, a host address, a timestamp or a counter: 32 bits. -/
abbrev Word := BitVec 32

/-- Payload bits 0 to 63, as the match table and the reply test compare them. -/
abbrev Mask := BitVec 64

/-- The payload of a frame: 128 bits, bit `k` being the `k`-th data bit in line order. -/
abbrev Payload := BitVec 128

/-- Lanes L0 to L3; also their request queues and transmit sequencers. -/
abbrev Lane := Fin 4

/-- Event queues EQ0 to EQ3. -/
abbrev EqId := Fin 4

/-- Profile slots P0 to P15. -/
abbrev SlotId := Fin 16

/-- Match entries M0 to M63. -/
abbrev EntryId := Fin 64

/-- A moment: microseconds of the time base since the last enable, without wrap (log entry 3). -/
abbrev Moment := Nat

end Sys2Proof
end

