-- ==== Sys2Proof/Config.lean ====
section
/-! DEFINITION. What the part fixes (00_scope.md, 7; R179) and the one free value of the model (log entry 10). -/

namespace Sys2Proof.Config

/-- IDENT reads family code 0x05A3, revision 0x01 and lane count 4 in every engine state (R161, R179). -/
def ident : Word := 0x040105A3#32

/-- The stuck-mark limit in µs (R27, R55). -/
def stuckLimit : Nat := 65535

/-- A lane's outbox holds at most this many events (R61). -/
def outboxDepth : Nat := 4

/-- The capture list's held count never passes this (R59, R60). -/
def captureDepth : Nat := 16

/-- A capture ends CAPTURE_FULL at this many pairs (R57). -/
def capturePairs : Nat := 64

/-- FREE VALUE (log entry 10). Whether the `n`-th RESET_LANE that returns buffers both from the lane's decoder or
capture writer and from its outbox appends the outbox's buffers first: R154 gives the returns no order. -/
opaque outboxReturnsFirst (n : Nat) : Bool

end Sys2Proof.Config
end

