-- ==== Sys2Proof/Syntax.lean ====
section
/-! DEFINITION. The commands of the block: one constructor of `Instr` per row of spec/opcode_table.json, with the
operands the row's happening brings in from outside. A register write brings the 32-bit word written (log entry 5); a
taken admin entry and a finished read bring the fields of the record that was read, each at its stored width (R177,
log entry 6). -/

namespace Sys2Proof

/-- The ten clients of the bus port, in ring order (R173). -/
inductive BusClient where
  | commandUnit
  | sequencer (lane : Lane)
  | captureWriter (lane : Lane)
  | eventWriter
  deriving DecidableEq, Repr

/-- SET_EVENT_QUEUE's fields 3 to 8 (R145, 10.2.2). -/
structure EventQueueArgs where
  queue : Byte
  mode : Byte
  size : Half
  base : Word
  threshold : Byte
  holdoff : Half
  deriving DecidableEq, Repr

/-- SET_REQUEST_QUEUE's fields 3 to 6 (R146, 10.2.2). -/
structure RequestQueueArgs where
  lane : Byte
  completionQueue : Byte
  size : Half
  base : Word
  deriving DecidableEq, Repr

/-- LOAD_FILTER's fields 3 to 11 (R148, 10.2.2). -/
structure FilterArgs where
  entry : Byte
  valid : Byte
  lanes : Byte
  profile : Byte
  action : Byte
  target : Byte
  entryTag : Half
  mask : Mask
  value : Mask
  deriving DecidableEq, Repr

/-- SET_LANE's fields 3 to 22 (R149, 10.2.2). -/
structure LaneArgs where
  lane : Byte
  mode : Byte
  inputLevel : Byte
  outputLevel : Byte
  glitchWidth : Byte
  armedCount : Byte
  echoGuard : Half
  deferLimit : Half
  settleSilence : Half
  armed1 : Byte
  armed2 : Byte
  armed3 : Byte
  armed4 : Byte
  reportErrors : Byte
  capture : Byte
  defaultAction : Byte
  defaultEq : Byte
  guardMode : Byte
  gateCommand : Byte
  guardWindow : Half
  deriving DecidableEq, Repr

/-- READ_COUNTERS' fields 3 to 8 (R158, 10.2.2). -/
structure CounterArgs where
  source : Byte
  lane : Byte
  firstEntry : Byte
  entryCount : Byte
  clear : Byte
  address : Word
  deriving DecidableEq, Repr

/-- A request entry, fields 1 to 16 (R87, 10.2.1). -/
structure RequestEntry where
  kind : Byte
  flags : Byte
  tag : Half
  profile : Byte
  bitCount : Byte
  repeats : Byte
  repeatForm : Byte
  payload : Payload
  listAddress : Word
  pairCount : Byte
  holdLimit : Half
  attempts : Byte
  replyWindow : Half
  replyProfile : Byte
  replyMask : Mask
  replyValue : Mask
  deriving DecidableEq, Repr

/-- A profile record, fields 1 to 24 (R4, 10.2.3). -/
structure ProfileRecord where
  encoding : Byte
  biphasePolarity : Byte
  carrierHigh : Byte
  carrierLow : Byte
  leaderMark : Half
  leaderSpace : Half
  mark0 : Half
  space0 : Half
  mark1 : Half
  space1 : Half
  trailerMark : Half
  bitsMin : Byte
  bitsMax : Byte
  endSilence : Half
  minGap : Half
  framePeriod : Half
  repeatMark : Half
  repeatSpace : Half
  repeatWindow : Half
  collapseIdentical : Byte
  tolerance : Byte
  learn : Byte
  learnMin : Half
  learnMax : Half
  deriving DecidableEq, Repr

/-- One pair of a RAW pair list: mark and space durations in µs (10.2.4). -/
structure RawPair where
  mark : Half
  space : Half
  deriving DecidableEq, Repr

/-- The commands. Each docstring names the row's rule. -/
inductive Instr where
  /-- POWER_ON_RESET (R171). -/
  | powerOnReset
  /-- ENGINE_RESET: a CONTROL write with RESET 1 (R171). -/
  | engineReset (word : Word)
  /-- ENABLE: a CONTROL write of ENABLE 1 (R168). -/
  | enable (word : Word)
  /-- ENGINE_STOP: a CONTROL write of ENABLE 0 (R169). -/
  | engineStop (word : Word)
  /-- IRQ_ENABLE_WRITE: a CONTROL write with RESET 0 (R162). -/
  | irqEnableWrite (word : Word)
  /-- SUBMIT_ERROR_CLEAR: a STATUS write of 1 to SUBMIT_ERROR (R163). -/
  | submitErrorClear (word : Word)
  /-- ACK_ERROR_CLEAR: a STATUS write of 1 to ACK_ERROR (R163). -/
  | ackErrorClear (word : Word)
  /-- ADMIN_FAULT_CLEAR: a STATUS write of 1 to ADMIN_FAULT (R163). -/
  | adminFaultClear (word : Word)
  /-- ADMIN_BASE_WRITE (R164). -/
  | adminBaseWrite (word : Word)
  /-- SUBMIT (R165). -/
  | submit (word : Word)
  /-- EVENT_ACK (R127). -/
  | eventAck (word : Word)
  /-- CLEAR_NOTICE: an EVENT_ACK write with clear-notice (R131). -/
  | clearNotice (word : Word)
  /-- REGISTER_WRITE_IGNORED: a host write of `width` bytes at `offset` (R160). -/
  | registerWriteIgnored (offset width : Nat) (word : Word)
  /-- BUS_GRANT: the host bus is ready for a transaction (R174). -/
  | busGrant
  /-- STOPPING_TRANSACTION_END: the client's transaction ends while the engine is STOPPING (R170). -/
  | stoppingTransactionEnd (client : BusClient) (busError : Bool)
  /-- ADMIN_READ_ERROR (R140). -/
  | adminReadError
  /-- UNKNOWN_COMMAND: the taken entry's command field names no command (R141). -/
  | unknownCommand (command : Byte) (tag : Half)
  /-- NOP (R144). -/
  | nop (tag : Half)
  /-- SET_EVENT_QUEUE (R145). -/
  | setEventQueue (tag : Half) (args : EventQueueArgs)
  /-- SET_REQUEST_QUEUE (R146). -/
  | setRequestQueue (tag : Half) (args : RequestQueueArgs)
  /-- LOAD_PROFILE (R16). -/
  | loadProfile (tag : Half) (slot : Byte) (address : Word)
  /-- PROFILE_RECORD_READ_END: the record, or none for a bus error (R17). -/
  | profileRecordReadEnd (record : Option ProfileRecord)
  /-- CLEAR_PROFILE (R21). -/
  | clearProfile (tag : Half) (slot : Byte)
  /-- LOAD_FILTER (R148). -/
  | loadFilter (tag : Half) (args : FilterArgs)
  /-- SET_LANE (R149). -/
  | setLane (tag : Half) (args : LaneArgs)
  /-- ABORT_LANE (R152). -/
  | abortLane (tag : Half) (lane scope : Byte)
  /-- RESET_LANE (R154). -/
  | resetLane (tag : Half) (lane : Byte)
  /-- RELEASE (R107). -/
  | release (tag : Half) (lane : Byte) (holdTag : Half)
  /-- POST_CAPTURE_BUFFER (R157). -/
  | postCaptureBuffer (tag : Half) (address : Word)
  /-- READ_COUNTERS (R158). -/
  | readCounters (tag : Half) (args : CounterArgs)
  /-- COUNTER_BLOCK_WRITE_END (R159). -/
  | counterBlockWriteEnd (busError : Bool)
  /-- PIN_EDGE: the lane's input pin takes the level (R25). -/
  | pinEdge (lane : Lane) (high : Bool)
  /-- TRANSITION_CONFIRM (R26). -/
  | transitionConfirm (lane : Lane)
  /-- THRESHOLD_CROSSING (R27). -/
  | thresholdCrossing (lane : Lane)
  /-- CAPTURE_WRITE_END (R58). -/
  | captureWriteEnd (lane : Lane) (busError : Bool)
  /-- REPEAT_WINDOW_EXPIRY (R71). -/
  | repeatWindowExpiry (lane : Lane)
  /-- GATE_WINDOW_EXPIRY (R80). -/
  | gateWindowExpiry (lane : Lane)
  /-- ECHO_GUARD_EXPIRY (R32). -/
  | echoGuardExpiry (lane : Lane)
  /-- REQUEST_ENTRY_READ_END (R88). -/
  | requestEntryReadEnd (lane : Lane) (entry : RequestEntry)
  /-- REQUEST_READ_ERROR (R86). -/
  | requestReadError (lane : Lane)
  /-- ACTIVATION (R89). -/
  | activation (lane : Lane)
  /-- PAIR_LIST_READ_END: the list, or none for a bus error (R94). -/
  | pairListReadEnd (lane : Lane) (pairs : Option (List RawPair))
  /-- SPACING_TIMER_EXPIRY (R93). -/
  | spacingTimerExpiry (lane : Lane)
  /-- TRANSMISSION_END (R92). -/
  | transmissionEnd (lane : Lane)
  /-- DEFER_TIMER_EXPIRY (R97). -/
  | deferTimerExpiry (lane : Lane)
  /-- HOLD_LIMIT_EXPIRY (R105). -/
  | holdLimitExpiry (lane : Lane)
  /-- REPLY_WINDOW_EXPIRY (R115). -/
  | replyWindowExpiry (lane : Lane)
  /-- EVENT_WRITE_END: the event write in flight is acknowledged (R125). -/
  | eventWriteEnd
  /-- EVENT_WRITE_ERROR: the event write in flight ends with a bus error (R135). -/
  | eventWriteError
  /-- HOLDOFF_EXPIRY (R129). -/
  | holdoffExpiry (queue : EqId)
  deriving DecidableEq, Repr

end Sys2Proof
end

