-- ==== Sys2Proof/WellFormed.lean ====
section
/-! DEFINITION. When a command is the happening its row names: a register write carries the bits of its row, an ignored
write is one the register window disregards, an unknown command names none of the twelve, a pair list has 1 to 128
pairs. A command that is not well formed still has a meaning: that of the write or record it carries. -/

namespace Sys2Proof

/-- The register window disregards a write of `width` bytes at `offset`: partial, misaligned, beyond the window, or to
IDENT or TIME (R160). -/
def writeDisregarded (offset width : Nat) : Bool :=
  width != 4 || offset % 4 != 0 || offset == 0 || decide (0x18 ≤ offset)

/-- The command codes of the twelve admin commands (R176). -/
def knownCommand (command : Byte) : Bool :=
  decide (1 ≤ command.toNat) && decide (command.toNat ≤ 12)

/-- The command is the happening its row names. -/
def Instr.wellFormed : Instr → Bool
  | .powerOnReset => true
  | .engineReset word => word.getLsbD 1
  | .enable word => word.getLsbD 0 && !word.getLsbD 1
  | .engineStop word => !word.getLsbD 0 && !word.getLsbD 1
  | .irqEnableWrite word => !word.getLsbD 1
  | .submitErrorClear word => word.getLsbD 3
  | .ackErrorClear word => word.getLsbD 4
  | .adminFaultClear word => word.getLsbD 2
  | .adminBaseWrite _ => true
  | .submit _ => true
  | .eventAck _ => true
  | .clearNotice word => word.getLsbD 31
  | .registerWriteIgnored offset width _ =>
      decide (1 ≤ width) && decide (width ≤ 4) && writeDisregarded offset width
  | .busGrant => true
  | .stoppingTransactionEnd _ _ => true
  | .adminReadError => true
  | .unknownCommand command _ => !knownCommand command
  | .nop _ => true
  | .setEventQueue _ _ => true
  | .setRequestQueue _ _ => true
  | .loadProfile _ _ _ => true
  | .profileRecordReadEnd _ => true
  | .clearProfile _ _ => true
  | .loadFilter _ _ => true
  | .setLane _ _ => true
  | .abortLane _ _ _ => true
  | .resetLane _ _ => true
  | .release _ _ _ => true
  | .postCaptureBuffer _ _ => true
  | .readCounters _ _ => true
  | .counterBlockWriteEnd _ => true
  | .pinEdge _ _ => true
  | .transitionConfirm _ => true
  | .thresholdCrossing _ => true
  | .captureWriteEnd _ _ => true
  | .repeatWindowExpiry _ => true
  | .gateWindowExpiry _ => true
  | .echoGuardExpiry _ => true
  | .requestEntryReadEnd _ _ => true
  | .requestReadError _ => true
  | .activation _ => true
  | .pairListReadEnd _ none => true
  | .pairListReadEnd _ (some pairs) => decide (1 ≤ pairs.length) && decide (pairs.length ≤ 128)
  | .spacingTimerExpiry _ => true
  | .transmissionEnd _ => true
  | .deferTimerExpiry _ => true
  | .holdLimitExpiry _ => true
  | .replyWindowExpiry _ => true
  | .eventWriteEnd => true
  | .eventWriteError => true
  | .holdoffExpiry _ => true

end Sys2Proof
end

