-- ==== Sys2Proof/Decode.lean ====
section
/-! DEFINITION. What bytes and words spell: the 64-byte records the part reads (R177, 10.2.1 to 10.2.4), each with the
layout software writes it in, and a 32-bit host write at a register offset (10.4). Reading is total on any bytes; a byte
beyond the given ones counts as 0. The opcode table gives its rows no bits, so `decodeTableWord` spells no command. -/

namespace Sys2Proof

/-- Byte `i` of a record. -/
def byteAt (bytes : List Byte) (i : Nat) : Byte := bytes.getD i 0

/-- The 16-bit little-endian field at offset `i`. -/
def halfAt (bytes : List Byte) (i : Nat) : Half := byteAt bytes (i + 1) ++ byteAt bytes i

/-- The 32-bit little-endian field at offset `i`. -/
def wordAt (bytes : List Byte) (i : Nat) : Word := halfAt bytes (i + 2) ++ halfAt bytes i

/-- The 64-bit little-endian field at offset `i`. -/
def maskAt (bytes : List Byte) (i : Nat) : Mask := wordAt bytes (i + 4) ++ wordAt bytes i

/-- The 128-bit payload field at offset `i`: payload bit `k` in byte `k / 8` at bit `k % 8`. -/
def payloadAt (bytes : List Byte) (i : Nat) : Payload := maskAt bytes (i + 8) ++ maskAt bytes i

/-- A 16-bit field, low byte first. -/
def halfBytes (x : Half) : List Byte := [x.setWidth 8, (x >>> 8).setWidth 8]

/-- A 32-bit field, low byte first. -/
def wordBytes (x : Word) : List Byte := halfBytes (x.setWidth 16) ++ halfBytes ((x >>> 16).setWidth 16)

/-- A 64-bit field, low byte first. -/
def maskBytes (x : Mask) : List Byte := wordBytes (x.setWidth 32) ++ wordBytes ((x >>> 32).setWidth 32)

/-- A payload field, payload bits 0 to 7 first. -/
def payloadBytes (x : Payload) : List Byte := maskBytes (x.setWidth 64) ++ maskBytes ((x >>> 64).setWidth 64)

/-- Reserved bytes, as software should write them (R177). -/
def reserved (n : Nat) : List Byte := List.replicate n 0

/-- The admin command a 64-byte admin entry holds (10.2.2, R176). -/
def decodeAdminEntry (e : List Byte) : Instr :=
  let tag := halfAt e 2
  match (byteAt e 0).toNat with
  | 1 => .nop tag
  | 2 => .setEventQueue tag
      { queue := byteAt e 4, mode := byteAt e 5, size := halfAt e 6, base := wordAt e 8,
        threshold := byteAt e 12, holdoff := halfAt e 14 }
  | 3 => .setRequestQueue tag
      { lane := byteAt e 4, completionQueue := byteAt e 5, size := halfAt e 6, base := wordAt e 8 }
  | 4 => .loadProfile tag (byteAt e 4) (wordAt e 8)
  | 5 => .clearProfile tag (byteAt e 4)
  | 6 => .loadFilter tag
      { entry := byteAt e 4, valid := byteAt e 5, lanes := byteAt e 6, profile := byteAt e 7,
        action := byteAt e 8, target := byteAt e 9, entryTag := halfAt e 10,
        mask := maskAt e 16, value := maskAt e 24 }
  | 7 => .setLane tag
      { lane := byteAt e 4, mode := byteAt e 5, inputLevel := byteAt e 6, outputLevel := byteAt e 7,
        glitchWidth := byteAt e 8, armedCount := byteAt e 9, echoGuard := halfAt e 10,
        deferLimit := halfAt e 12, settleSilence := halfAt e 14, armed1 := byteAt e 16,
        armed2 := byteAt e 17, armed3 := byteAt e 18, armed4 := byteAt e 19,
        reportErrors := byteAt e 20, capture := byteAt e 21, defaultAction := byteAt e 22,
        defaultEq := byteAt e 23, guardMode := byteAt e 24, gateCommand := byteAt e 25,
        guardWindow := halfAt e 26 }
  | 8 => .abortLane tag (byteAt e 4) (byteAt e 5)
  | 9 => .resetLane tag (byteAt e 4)
  | 10 => .release tag (byteAt e 4) (halfAt e 6)
  | 11 => .postCaptureBuffer tag (wordAt e 8)
  | 12 => .readCounters tag
      { source := byteAt e 4, lane := byteAt e 5, firstEntry := byteAt e 6, entryCount := byteAt e 7,
        clear := byteAt e 8, address := wordAt e 12 }
  | _ => .unknownCommand (byteAt e 0) tag

/-- The common head of an admin entry: command, reserved byte, tag. -/
def adminHead (command : Byte) (tag : Half) : List Byte := [command, 0] ++ halfBytes tag

/-- The 64 bytes of the admin entry that a taken admin command was read from, reserved bytes 0; none for a row that is
not a taken admin entry (10.2.2). -/
def encodeAdminEntry : Instr → Option (List Byte)
  | .nop tag => some (adminHead 1 tag ++ reserved 60)
  | .setEventQueue tag a =>
      some (adminHead 2 tag ++ [a.queue, a.mode] ++ halfBytes a.size ++ wordBytes a.base ++
        [a.threshold, 0] ++ halfBytes a.holdoff ++ reserved 48)
  | .setRequestQueue tag a =>
      some (adminHead 3 tag ++ [a.lane, a.completionQueue] ++ halfBytes a.size ++ wordBytes a.base ++
        reserved 52)
  | .loadProfile tag slot address =>
      some (adminHead 4 tag ++ [slot, 0, 0, 0] ++ wordBytes address ++ reserved 52)
  | .clearProfile tag slot => some (adminHead 5 tag ++ [slot] ++ reserved 59)
  | .loadFilter tag a =>
      some (adminHead 6 tag ++ [a.entry, a.valid, a.lanes, a.profile, a.action, a.target] ++
        halfBytes a.entryTag ++ reserved 4 ++ maskBytes a.mask ++ maskBytes a.value ++ reserved 32)
  | .setLane tag a =>
      some (adminHead 7 tag ++ [a.lane, a.mode, a.inputLevel, a.outputLevel, a.glitchWidth, a.armedCount] ++
        halfBytes a.echoGuard ++ halfBytes a.deferLimit ++ halfBytes a.settleSilence ++
        [a.armed1, a.armed2, a.armed3, a.armed4, a.reportErrors, a.capture, a.defaultAction, a.defaultEq,
          a.guardMode, a.gateCommand] ++ halfBytes a.guardWindow ++ reserved 36)
  | .abortLane tag lane scope => some (adminHead 8 tag ++ [lane, scope] ++ reserved 58)
  | .resetLane tag lane => some (adminHead 9 tag ++ [lane] ++ reserved 59)
  | .release tag lane holdTag =>
      some (adminHead 10 tag ++ [lane, 0] ++ halfBytes holdTag ++ reserved 56)
  | .postCaptureBuffer tag address =>
      some (adminHead 11 tag ++ reserved 4 ++ wordBytes address ++ reserved 52)
  | .readCounters tag a =>
      some (adminHead 12 tag ++ [a.source, a.lane, a.firstEntry, a.entryCount, a.clear, 0, 0, 0] ++
        wordBytes a.address ++ reserved 48)
  | .unknownCommand command tag => some (adminHead command tag ++ reserved 60)
  | _ => none

/-- The request entry that 64 bytes hold (10.2.1). -/
def decodeRequestEntry (e : List Byte) : RequestEntry :=
  { kind := byteAt e 0, flags := byteAt e 1, tag := halfAt e 2, profile := byteAt e 4,
    bitCount := byteAt e 5, repeats := byteAt e 6, repeatForm := byteAt e 7, payload := payloadAt e 8,
    listAddress := wordAt e 24, pairCount := byteAt e 28, holdLimit := halfAt e 30,
    attempts := byteAt e 32, replyWindow := halfAt e 34, replyProfile := byteAt e 36,
    replyMask := maskAt e 40, replyValue := maskAt e 48 }

/-- The 64 bytes of a request entry, reserved bytes 0 (10.2.1). -/
def encodeRequestEntry (r : RequestEntry) : List Byte :=
  [r.kind, r.flags] ++ halfBytes r.tag ++ [r.profile, r.bitCount, r.repeats, r.repeatForm] ++
    payloadBytes r.payload ++ wordBytes r.listAddress ++ [r.pairCount, 0] ++ halfBytes r.holdLimit ++
    [r.attempts, 0] ++ halfBytes r.replyWindow ++ [r.replyProfile] ++ reserved 3 ++
    maskBytes r.replyMask ++ maskBytes r.replyValue ++ reserved 8

/-- The profile record that 64 bytes hold (10.2.3). -/
def decodeProfileRecord (e : List Byte) : ProfileRecord :=
  { encoding := byteAt e 0, biphasePolarity := byteAt e 1, carrierHigh := byteAt e 2,
    carrierLow := byteAt e 3, leaderMark := halfAt e 4, leaderSpace := halfAt e 6, mark0 := halfAt e 8,
    space0 := halfAt e 10, mark1 := halfAt e 12, space1 := halfAt e 14, trailerMark := halfAt e 16,
    bitsMin := byteAt e 18, bitsMax := byteAt e 19, endSilence := halfAt e 20, minGap := halfAt e 22,
    framePeriod := halfAt e 24, repeatMark := halfAt e 26, repeatSpace := halfAt e 28,
    repeatWindow := halfAt e 30, collapseIdentical := byteAt e 32, tolerance := byteAt e 33,
    learn := byteAt e 34, learnMin := halfAt e 36, learnMax := halfAt e 38 }

/-- The 64 bytes of a profile record, reserved bytes 0 (10.2.3). -/
def encodeProfileRecord (r : ProfileRecord) : List Byte :=
  [r.encoding, r.biphasePolarity, r.carrierHigh, r.carrierLow] ++ halfBytes r.leaderMark ++
    halfBytes r.leaderSpace ++ halfBytes r.mark0 ++ halfBytes r.space0 ++ halfBytes r.mark1 ++
    halfBytes r.space1 ++ halfBytes r.trailerMark ++ [r.bitsMin, r.bitsMax] ++ halfBytes r.endSilence ++
    halfBytes r.minGap ++ halfBytes r.framePeriod ++ halfBytes r.repeatMark ++ halfBytes r.repeatSpace ++
    halfBytes r.repeatWindow ++ [r.collapseIdentical, r.tolerance, r.learn, 0] ++ halfBytes r.learnMin ++
    halfBytes r.learnMax ++ reserved 24

/-- The first `n` pairs of a RAW pair list (10.2.4). -/
def decodePairs (bytes : List Byte) : Nat → List RawPair
  | 0 => []
  | n + 1 => { mark := halfAt bytes 0, space := halfAt bytes 2 } :: decodePairs (bytes.drop 4) n

/-- The bytes of a pair list, four per pair (10.2.4). -/
def encodePairs (pairs : List RawPair) : List Byte :=
  pairs.flatMap fun p => halfBytes p.mark ++ halfBytes p.space

/-- The command a host write of `width` bytes at register offset `offset` is (R160, 10.4). A STATUS write that names
several error bits is the row of the lowest-numbered rule bit it names: every STATUS row acts on all of them. -/
def decodeHostWrite (offset width : Nat) (word : Word) : Instr :=
  if writeDisregarded offset width then .registerWriteIgnored offset width word
  else if offset = 0x04 then
    if word.getLsbD 1 then .engineReset word
    else if word.getLsbD 0 then .enable word
    else .engineStop word
  else if offset = 0x08 then
    if word.getLsbD 3 then .submitErrorClear word
    else if word.getLsbD 4 then .ackErrorClear word
    else .adminFaultClear word
  else if offset = 0x0C then .adminBaseWrite word
  else if offset = 0x10 then .submit word
  else if word.getLsbD 31 then .clearNotice word
  else .eventAck word

/-- The command a word spells by the opcode table's bits. The table gives no row any bits (98_reader.md:
`n_rows_with_fixed` is 0), so no word spells a command (log entry 4). -/
def decodeTableWord (_nbits _w : Nat) : Option Instr := none

end Sys2Proof
end

