-- ==== Sys2Proof/Machine/State.lean ====
section
/-! DEFINITION. Everything the spec gives the machine, as plain data, and its value after reset. Each structure names the
rule that gives it; INVENTORY.md lists every field with its reset value. -/

namespace Sys2Proof.Machine

/-! ## Names the manual gives -/

/-- Engine states (R167). -/
inductive EngineState where
  | off
  | running
  | stopping
  deriving DecidableEq, Repr

/-- Result and status codes (08, 8.7). -/
inductive Code where
  | ok
  | unknownKind
  | fieldRange
  | profileInvalid
  | profileInUse
  | queueBusy
  | laneBusy
  | modeConflict
  | notHolding
  | listFull
  | fetchError
  | writeError
  | aborted
  | released
  | holdLimit
  | noReply
  | lineBusy
  | queueFault
  | broken
  | short
  | long
  | captureFull
  | lineStuck
  deriving DecidableEq, Repr

/-- Encodings of a profile (R4). -/
inductive Encoding where
  | pdist
  | pwidth
  | biphase
  deriving DecidableEq, Repr

/-- biphase_polarity (R7). -/
inductive Polarity where
  | markFirstIsOne
  | markFirstIsZero
  deriving DecidableEq, Repr

/-- Lane modes (R22). -/
inductive LaneMode where
  | disabled
  | txOnly
  | rxOnly
  | shared
  | split
  deriving DecidableEq, Repr

/-- States of a request queue or an event queue (R83, R121). -/
inductive QueueState where
  | absent
  | running
  | faulted
  deriving DecidableEq, Repr

/-- Moderation modes (R121). -/
inductive Moderation where
  | off
  | count
  | latched
  deriving DecidableEq, Repr

/-- The action of a press: that of a match entry (R73), or the lane's default DELIVER (R76). The default DROP acts as the
entry action DROP. -/
inductive Action where
  | press
  | end_
  | both
  | each
  | count
  | drop
  | wake
  | deliver
  deriving DecidableEq, Repr

/-- Press phases of FRAME events (R176). -/
inductive PressPhase where
  | single
  | press
  | repeat_
  | end_
  deriving DecidableEq, Repr

/-- Gate commands of SET_LANE (R81). -/
inductive GateCommand where
  | keep
  | open_
  | close
  deriving DecidableEq, Repr

/-- Request kinds (R87). -/
inductive RequestKind where
  | send
  | raw
  | hold
  | exchange
  deriving DecidableEq, Repr

/-- The eight lane counters in index order (R36). -/
inductive LaneCounter where
  | framesGood
  | framesBad
  | repeats
  | orphans
  | noise
  | captureDrops
  | collisions
  | lostEvents
  deriving DecidableEq, Repr

/-! ## Profile store and match table -/

/-- A profile: the 24 fields of R4. -/
structure Profile where
  encoding : Encoding
  polarity : Polarity
  carrierHigh : Nat
  carrierLow : Nat
  leaderMark : Nat
  leaderSpace : Nat
  mark0 : Nat
  space0 : Nat
  mark1 : Nat
  space1 : Nat
  trailerMark : Nat
  bitsMin : Nat
  bitsMax : Nat
  endSilence : Nat
  minGap : Nat
  framePeriod : Nat
  repeatMark : Nat
  repeatSpace : Nat
  repeatWindow : Nat
  collapseIdentical : Bool
  tolerance : Nat
  learn : Bool
  learnMin : Nat
  learnMax : Nat
  deriving DecidableEq, Repr

/-- A profile slot (R1). -/
inductive Slot where
  | invalid
  | loading
  | valid (profile : Profile)
  deriving DecidableEq, Repr

/-- The contents of a valid match entry (R73). -/
structure Filter where
  lanes : BitVec 4
  profile : SlotId
  mask : Mask
  value : Mask
  action : Action
  target : EqId
  tag : Half
  deriving DecidableEq, Repr

/-- A match entry with its hit count; an invalid entry has no contents that act (R73). -/
structure MatchEntry where
  filter : Option Filter
  hits : Word
  deriving DecidableEq, Repr

/-! ## Events -/

/-- Kinds of receive-side events (R61). -/
inductive RxKind where
  | frame
  | capture
  | notice
  deriving DecidableEq, Repr

/-- A receive-side event of a lane: FRAME, CAPTURE or NOTICE (R123). -/
structure RxEvent where
  kind : RxKind
  status : Code
  target : EqId
  profile : SlotId
  bitCount : Nat
  payload : Payload
  phase : PressPhase
  wake : Bool
  repeatCount : Half
  tag : Half
  aux : Word
  timestamp : Word
  lost : Byte
  deriving DecidableEq, Repr

/-- A COMPLETION (R98); the queue head is taken in at the write (R99). -/
structure Completion where
  target : EqId
  status : Code
  tag : Half
  profile : Byte
  count : Half
  detail : Byte
  bitCount : Nat
  payload : Payload
  timestamp : Word
  deriving DecidableEq, Repr

/-- An ADMIN_DONE (R142); the admin head is taken in at the write. -/
structure AdminDone where
  status : Code
  tag : Half
  profile : Byte
  detail : Half
  timestamp : Word
  deriving DecidableEq, Repr

/-! ## Command unit -/

/-- The admin queue while it is present (R138). -/
structure AdminQueue where
  base : Word
  size : Nat
  head : Nat
  tail : Nat
  deriving DecidableEq, Repr

/-- The counters a READ_COUNTERS names (R158). -/
inductive CounterSource where
  | lane (lane : Lane)
  | hits (first count : Nat)
  deriving DecidableEq, Repr

/-- A wait that belongs to a command in EXECUTING (R139). -/
inductive AdminWork where
  | profileRead (slot : SlotId)
  | counterWrite (source : CounterSource) (clear : Bool)
  | laneAbort (lane : Lane) (reset : Bool)
  deriving DecidableEq, Repr

/-- States of the command unit (R139); POSTING holds the posting slot. -/
inductive AdminState where
  | stopped
  | idle
  | fetch
  | executing (tag : Half) (work : AdminWork)
  | posting (done : AdminDone)
  | halted
  deriving DecidableEq, Repr

/-- The command unit (R138, R139). -/
structure CommandUnit where
  state : AdminState
  queue : Option AdminQueue
  deriving DecidableEq, Repr

/-! ## A lane's receive side -/

/-- Lane settings (R37). -/
structure LaneSettings where
  mode : LaneMode
  inputHigh : Bool
  outputHigh : Bool
  glitchWidth : Nat
  echoGuard : Nat
  deferLimit : Nat
  settleSilence : Nat
  armed : List SlotId
  reportErrors : Bool
  capture : Bool
  defaultDeliver : Bool
  defaultEq : EqId
  guarded : Bool
  guardWindow : Nat
  deriving DecidableEq, Repr

/-- The glitch filter of a running input side: the confirmed level and its first edge, whether the interval it began will
be handed to the decoder, whether its stuck-mark limit has been reported, the latest withdrawal of the blind condition
since the restart, and the pending excursion's edge (R23, R25, R26, R27, R33). -/
structure InputFilter where
  mark : Bool
  firstEdge : Moment
  handed : Bool
  stuckReported : Bool
  unblinded : Option Moment
  excursion : Option Moment
  deriving DecidableEq, Repr

/-- A candidate of a burst: its scale as a leader and its scale as a repeat leader (R38). -/
structure Candidate where
  slot : SlotId
  leader : Option Nat
  repeated : Option Nat
  deriving DecidableEq, Repr

/-- The partial frame of a burst (R38): the bits decoded, which nominals the last PDIST mark matched, whether the last
PWIDTH mark was the trailer, and the waiting BIPHASE half-bit (true: a mark half). -/
structure PartialFrame where
  count : Nat
  payload : Payload
  bitMark : Bool
  trailerMark : Bool
  half : Option Bool
  deriving DecidableEq, Repr

/-- Why a DRAIN waits and for what (R54). -/
inductive DrainKind where
  | profile (threshold : Nat)
  | settle
  | stuck
  deriving DecidableEq, Repr

/-- One pair of a capture, in µs (R57). -/
structure CapturePair where
  mark : Nat
  space : Nat
  deriving DecidableEq, Repr

/-- Capture work (R38): the buffer, the burst start, the pairs completed and the mark of the pair being completed. -/
structure CaptureWork where
  buffer : Word
  start : Moment
  pairs : List CapturePair
  openMark : Option Nat
  deriving DecidableEq, Repr

/-- Decoder states with the work each holds (R38). -/
inductive Decoder where
  | off
  | hunt (since : Moment)
  | leader (start : Moment)
  | spaceCheck (start : Moment) (mark : Nat) (candidates : List Candidate)
  | symbols (start : Moment) (slot : SlotId) (scale : Nat) (part : PartialFrame)
  | repeatTail (start : Moment) (slot : SlotId) (scale : Nat)
  | drain (kind : DrainKind)
  | capture (work : CaptureWork)
  | blind
  deriving DecidableEq, Repr

/-- A finished capture in the lane's capture writer (R58). -/
structure FinishedCapture where
  buffer : Word
  start : Moment
  status : Code
  pairs : List CapturePair
  deriving DecidableEq, Repr

/-- The open press context with its repeat-window timer (R66, R71). -/
structure Press where
  profile : SlotId
  bitCount : Nat
  payload : Payload
  firstTime : Word
  lastTime : Word
  heldDuration : Word
  repeatCount : Half
  action : Action
  target : EqId
  tag : Half
  delivering : Bool
  endOwed : Bool
  windowDue : Moment
  deriving DecidableEq, Repr

/-- The outbox (R61). `settling` is an event whose write was in flight when RESET_LANE emptied the list (R155). -/
structure Outbox where
  events : List RxEvent
  lost : Byte
  settling : Option RxEvent
  deriving DecidableEq, Repr

/-! ## A lane's transmit side -/

/-- One interval of a transmission (R28). -/
structure Interval where
  mark : Bool
  length : Nat
  deriving DecidableEq, Repr

/-- The transmission on the lane's output: its start, its intervals, and the carrier phases in ticks, both 0 for
unmodulated (R28). `metHunt` is the model's own: when the start of a request's first transmission found the line-busy
sense false, the decoder's latest entry into HUNT, against which a mark of the same moment is measured (R34, log
entry 30). -/
structure Transmission where
  start : Moment
  intervals : List Interval
  carrierHigh : Nat
  carrierLow : Nat
  metHunt : Option Moment
  deriving DecidableEq, Repr

/-- A lane's request queue (R83). -/
structure RequestQueue where
  state : QueueState
  base : Word
  size : Nat
  head : Nat
  tail : Nat
  completionQueue : EqId
  deriving DecidableEq, Repr

/-- States of the transmit sequencer (R84). -/
inductive SeqState where
  | idle
  | fetch
  | listFetch
  | gap
  | defer
  | sending
  | holding
  | ending
  | listen
  | posting
  deriving DecidableEq, Repr

/-- The active request, with the hold record of R103 or the exchange record of R111: the entry as taken, its pair list,
transmissions or attempts started, the start of the latest transmission, the hold period, and the end cause. -/
structure ActiveRequest where
  entry : RequestEntry
  kind : RequestKind
  pairs : List RawPair
  started : Half
  firstStart : Option Moment
  lastStart : Moment
  holdPeriod : Nat
  endCause : Option Code
  deriving DecidableEq, Repr

/-- An ABORT_LANE or RESET_LANE whose completions are not all written: entries of the flush still to be answered, and
ABORTED completions made so far (R152, R153). -/
structure AbortWork where
  remaining : Nat
  aborted : Nat
  deriving DecidableEq, Repr

/-- The transmit sequencer (R84). -/
structure Sequencer where
  state : SeqState
  taken : Option RequestEntry
  active : Option ActiveRequest
  lineFree : Option Moment
  spacingDue : Option Moment
  deferDue : Option Moment
  limitDue : Option Moment
  replyDue : Option Moment
  completion : Option Completion
  abort : Option AbortWork
  deriving DecidableEq, Repr

/-- Everything a lane holds. -/
structure LaneState where
  settings : LaneSettings
  counters : Vector Word 8
  pinHigh : Bool
  filter : Option InputFilter
  blind : Bool
  echoDue : Option Moment
  decoder : Decoder
  press : Option Press
  gateOpen : Bool
  gateDue : Option Moment
  outbox : Outbox
  capture : Option FinishedCapture
  queue : RequestQueue
  seq : Sequencer
  tx : Option Transmission
  deriving DecidableEq, Repr

/-! ## Event writer and bus port -/

/-- An event queue (R121). -/
structure EventQueue where
  state : QueueState
  base : Word
  size : Nat
  tail : Nat
  phase : Bool
  unread : Nat
  mode : Moderation
  threshold : Nat
  holdoff : Nat
  flag : Bool
  holdoffDue : Option Moment
  fault : Bool
  deriving DecidableEq, Repr

/-- The nine writers that hand events to the event writer, in ring order (R124). -/
inductive Writer where
  | commandUnit
  | sequencer (lane : Lane)
  | outbox (lane : Lane)
  deriving DecidableEq, Repr

/-- The event writer: its round-robin pointer and the write in flight (R124). -/
structure EventWriter where
  pointer : Fin 9
  inFlight : Option (Writer × EqId)
  deriving DecidableEq, Repr

/-- What a bus transaction is for (R173). A pair list read or a capture buffer write whose result is no longer wanted is
`discarded` (R58, R100). -/
inductive Purpose where
  | adminEntry
  | profileRecord
  | counterBlock
  | requestEntry
  | pairList (discarded : Bool)
  | captureBuffer (discarded : Bool)
  | event
  deriving DecidableEq, Repr

/-- One bus transaction: a read of `length` bytes, or a write of the bytes in `data` (R173). -/
structure Transaction where
  purpose : Purpose
  address : Word
  length : Nat
  data : List Byte
  deriving DecidableEq, Repr

/-- What the bus port holds for a client (R173). -/
inductive BusSlot where
  | idle
  | pending (transaction : Transaction)
  | outstanding (transaction : Transaction)
  deriving DecidableEq, Repr

/-- The bus port (R173). -/
structure BusPort where
  slots : Vector BusSlot 10
  pointer : Fin 10
  deriving DecidableEq, Repr

/-! ## The machine -/

/-- Everything the spec gives the part, the queue of commands that wait, and the count of free values used. -/
structure State where
  engine : EngineState
  irqEnable : Bool
  adminFault : Bool
  submitError : Bool
  ackError : Bool
  adminBase : Word
  clock : Moment
  admin : CommandUnit
  slots : Vector Slot 16
  matchTable : Vector MatchEntry 64
  lanes : Vector LaneState 4
  captureList : List Word
  heldCount : Nat
  eqs : Vector EventQueue 4
  writer : EventWriter
  bus : BusPort
  freeIndex : Nat
  pending : List Instr
  deriving DecidableEq, Repr

/-- Why a step could stop the machine. The part has no such case: a bus error, a full ring and a stuck line are all
effects the spec describes, so no command faults. -/
inductive Fault where
  deriving DecidableEq, Repr

/-- Why a command could have no meaning. -/
inductive Refusal where
  /-- Raised by `exec` for a row without a meaning (none is left); safe: it claims nothing of the row. -/
  | notModelled (mnemonic : String)
  deriving DecidableEq, Repr

/-! ## Reset -/

/-- Lane settings after power-on reset, engine reset and RESET_LANE (08, 8.5). -/
def LaneSettings.reset : LaneSettings where
  mode := .disabled
  inputHigh := true
  outputHigh := true
  glitchWidth := 0
  echoGuard := 0
  deferLimit := 0
  settleSilence := 100
  armed := []
  reportErrors := false
  capture := false
  defaultDeliver := false
  defaultEq := 0
  guarded := false
  guardWindow := 1000

/-- The eight counters at 0 (R36). -/
def countersReset : Vector Word 8 := Vector.replicate 8 0

/-- An empty outbox with lost count 0 (R61). -/
def Outbox.reset : Outbox := { events := [], lost := 0, settling := none }

/-- An ABSENT request queue (R83). DESIGN CHOICE (log entries 8 and 21): the fields that have no effect are 0. Unsafe. -/
def RequestQueue.absent : RequestQueue :=
  { state := .absent, base := 0, size := 0, head := 0, tail := 0, completionQueue := 0 }

/-- The sequencer after reset and at engine stop (R84). -/
def Sequencer.reset : Sequencer :=
  { state := .idle, taken := none, active := none, lineFree := none, spacingDue := none, deferDue := none,
    limitDue := none, replyDue := none, completion := none, abort := none }

/-- A lane after power-on reset. DESIGN CHOICE (log entry 8): the input pin, which is driven from outside, is low.
Unsafe. -/
def LaneState.reset : LaneState where
  settings := LaneSettings.reset
  counters := countersReset
  pinHigh := false
  filter := none
  blind := false
  echoDue := none
  decoder := .off
  press := none
  gateOpen := false
  gateDue := none
  outbox := Outbox.reset
  capture := none
  queue := RequestQueue.absent
  seq := Sequencer.reset
  tx := none

/-- An event queue after power-on reset and engine reset (R121). DESIGN CHOICE (log entry 8): base, size, threshold and
holdoff, which have no effect while it is ABSENT, are 0. Unsafe. -/
def EventQueue.reset : EventQueue where
  state := .absent
  base := 0
  size := 0
  tail := 0
  phase := true
  unread := 0
  mode := .off
  threshold := 0
  holdoff := 0
  flag := false
  holdoffDue := none
  fault := false

/-- The event writer after reset and at engine stop (R124). -/
def EventWriter.reset : EventWriter := { pointer := 0, inFlight := none }

/-- The bus port after power-on reset (R173). -/
def BusPort.reset : BusPort := { slots := Vector.replicate 10 .idle, pointer := 0 }

/-- The command unit after reset and at engine stop (R138, R139). -/
def CommandUnit.reset : CommandUnit := { state := .stopped, queue := none }

/-- An invalid match entry with hit count 0 (R73). -/
def MatchEntry.reset : MatchEntry := { filter := none, hits := 0 }

/-- The machine right after power-on reset (R171), with no command waiting. -/
def State.reset : State where
  engine := .off
  irqEnable := false
  adminFault := false
  submitError := false
  ackError := false
  adminBase := 0
  clock := 0
  admin := CommandUnit.reset
  slots := Vector.replicate 16 .invalid
  matchTable := Vector.replicate 64 MatchEntry.reset
  lanes := Vector.replicate 4 LaneState.reset
  captureList := []
  heldCount := 0
  eqs := Vector.replicate 4 EventQueue.reset
  writer := EventWriter.reset
  bus := BusPort.reset
  freeIndex := 0
  pending := []

end Sys2Proof.Machine
end

