-- ==== Sys2Proof/Machine/Ops.lean ====
section
/-! DEFINITION. The named operations over State that every meaning is written in: reading and updating one lane, one
event queue, one slot, one entry or one bus client; saturating counts; timestamps; asking the bus port; the capture list. -/

namespace Sys2Proof.Machine

/-! ## Numbers -/

/-- One more, stopping at the largest value (00_scope.md, 6 (9)). -/
def satInc {w : Nat} (x : BitVec w) : BitVec w := if x = BitVec.allOnes w then x else x + 1

/-- A sum that stays at the largest value once it gets there (R68). -/
def satAdd {w : Nat} (x y : BitVec w) : BitVec w :=
  if x.toNat + y.toNat < 2 ^ w then x + y else BitVec.allOnes w

/-- The time base's reading at a moment (R30). -/
def stamp (m : Moment) : Word := BitVec.ofNat 32 m

/-- Every lane, L0 first. -/
def allLanes : List Lane := [0, 1, 2, 3]

/-- Every event queue, EQ0 first. -/
def allQueues : List EqId := [0, 1, 2, 3]

/-- A field's low two bits as a lane or an event queue; its range is checked before. -/
def toFour (x : Byte) : Fin 4 := ⟨x.toNat % 4, Nat.mod_lt _ (by decide)⟩

/-- A field's low four bits as a profile slot; its range is checked before. -/
def toSlot (x : Byte) : SlotId := ⟨x.toNat % 16, Nat.mod_lt _ (by decide)⟩

/-- A field's low six bits as a match entry; its range is checked before. -/
def toEntry (x : Byte) : EntryId := ⟨x.toNat % 64, Nat.mod_lt _ (by decide)⟩

/-- A timer has run out: it runs and its moment has come (R31, log entry 26). -/
def expired (timer : Option Moment) (now : Moment) : Bool :=
  match timer with
  | none => false
  | some due => decide (due ≤ now)

/-- Every member of a fixed number of like things, changed in the same way. -/
def each {α β : Type} {n : Nat} (f : α → β) (xs : Vector α n) : Vector β n := Vector.ofFn fun i => f xs[i.val]

/-! ## Parts of State -/

/-- The time base (R30). -/
def State.timeBase (s : State) : Word := stamp s.clock

/-- A lane. -/
def State.lane (s : State) (l : Lane) : LaneState := s.lanes[l.val]

/-- Replace a lane. -/
def State.setLane (s : State) (l : Lane) (x : LaneState) : State := { s with lanes := s.lanes.set l.val x }

/-- Change a lane. -/
def State.modLane (s : State) (l : Lane) (f : LaneState → LaneState) : State := s.setLane l (f (s.lane l))

/-- Change a lane's sequencer. -/
def State.modSeq (s : State) (l : Lane) (f : Sequencer → Sequencer) : State :=
  s.modLane l fun x => { x with seq := f x.seq }

/-- An event queue. -/
def State.eq (s : State) (q : EqId) : EventQueue := s.eqs[q.val]

/-- Replace an event queue. -/
def State.setEq (s : State) (q : EqId) (x : EventQueue) : State := { s with eqs := s.eqs.set q.val x }

/-- A profile slot. -/
def State.slot (s : State) (i : SlotId) : Slot := s.slots[i.val]

/-- Replace a profile slot. -/
def State.setSlot (s : State) (i : SlotId) (x : Slot) : State := { s with slots := s.slots.set i.val x }

/-- A match entry. -/
def State.entry (s : State) (i : EntryId) : MatchEntry := s.matchTable[i.val]

/-- Replace a match entry. -/
def State.setEntry (s : State) (i : EntryId) (x : MatchEntry) : State :=
  { s with matchTable := s.matchTable.set i.val x }

/-- The profile that stands for a slot without one. No armed slot and no slot of an active request is without one
(R2), so nothing is ever decoded or sent with it (log entry 19). -/
def blankProfile : Profile :=
  { encoding := .pdist, polarity := .markFirstIsOne, carrierHigh := 0, carrierLow := 0, leaderMark := 0,
    leaderSpace := 0, mark0 := 0, space0 := 0, mark1 := 0, space1 := 0, trailerMark := 0, bitsMin := 0,
    bitsMax := 0, endSilence := 0, minGap := 0, framePeriod := 0, repeatMark := 0, repeatSpace := 0,
    repeatWindow := 0, collapseIdentical := false, tolerance := 0, learn := false, learnMin := 0,
    learnMax := 0 }

/-- The profile a slot holds. -/
def Slot.profile : Slot → Profile
  | .valid p => p
  | .invalid => blankProfile
  | .loading => blankProfile

/-- A slot is VALID (R1). -/
def Slot.isValid : Slot → Bool
  | .valid _ => true
  | .invalid => false
  | .loading => false

/-- The profile in a slot. -/
def State.profile (s : State) (i : SlotId) : Profile := (s.slot i).profile

/-! ## Counters -/

/-- A lane counter's index (R36). -/
def LaneCounter.index : LaneCounter → Fin 8
  | .framesGood => 0
  | .framesBad => 1
  | .repeats => 2
  | .orphans => 3
  | .noise => 4
  | .captureDrops => 5
  | .collisions => 6
  | .lostEvents => 7

/-- A lane's counter. -/
def LaneState.counter (x : LaneState) (c : LaneCounter) : Word := x.counters[c.index.val]

/-- Increase a lane counter by one, saturating (R36). -/
def bump (l : Lane) (c : LaneCounter) (s : State) : State :=
  s.modLane l fun x => { x with counters := x.counters.set c.index.val (satInc (x.counter c)) }

/-! ## Bus port -/

/-- A client's place in the ring, counted from 0 (R173). -/
def busIndex : BusClient → Fin 10
  | .commandUnit => 0
  | .sequencer l => ⟨l.val + 1, by omega⟩
  | .captureWriter l => ⟨l.val + 5, by omega⟩
  | .eventWriter => 9

/-- What the bus port holds for a client. -/
def State.busSlot (s : State) (c : BusClient) : BusSlot := s.bus.slots[(busIndex c).val]

/-- Replace what the bus port holds for a client. -/
def State.setBus (s : State) (c : BusClient) (x : BusSlot) : State :=
  { s with bus := { s.bus with slots := s.bus.slots.set (busIndex c).val x } }

/-- A client asks for a transaction. A client that has one pending or outstanding asks for no other (R173). -/
def askBus (c : BusClient) (t : Transaction) (s : State) : State :=
  match s.busSlot c with
  | .idle => s.setBus c (.pending t)
  | .pending _ => s
  | .outstanding _ => s

/-- A slot holds an outstanding transaction. -/
def BusSlot.isOutstanding : BusSlot → Bool
  | .outstanding _ => true
  | .idle => false
  | .pending _ => false

/-- Some transaction is outstanding (R167). -/
def State.anyOutstanding (s : State) : Bool := s.bus.slots.toList.any BusSlot.isOutstanding

/-- Reaching OFF clears ADMIN_FAULT and the four fault bits (R170). -/
def reachOff (s : State) : State :=
  { s with engine := .off, adminFault := false, eqs := each (fun q => { q with fault := false }) s.eqs }

/-- STOPPING lasts while a transaction is outstanding; the engine then reaches OFF (R169, R170). -/
def settleStopping (s : State) : State := if s.anyOutstanding then s else reachOff s

/-- A transaction's end while the engine is STOPPING: its outcome is disregarded (R170). -/
def stoppingEnd (c : BusClient) (s : State) : State := settleStopping (s.setBus c .idle)

/-- The end of client `c`'s outstanding transaction, when its purpose is one of those `wanted`: disregarded in STOPPING
(R170), and otherwise handed to its client, whose place in the port is free again (R173). When no such transaction is
outstanding, no such happening comes about and nothing changes (log entry 2). -/
def endTransaction (c : BusClient) (wanted : Purpose → Bool) (act : Transaction → State → State) (s : State) : State :=
  match s.busSlot c with
  | .outstanding t =>
      if wanted t.purpose then
        match s.engine with
        | .running => act t (s.setBus c .idle)
        | .stopping => stoppingEnd c s
        | .off => s
      else s
  | .idle => s
  | .pending _ => s

/-- The grant of R174: the first client with a pending request, from the pointer onward in ring order, and the place
after it. -/
def grantFrom (slots : Vector BusSlot 10) (pointer : Fin 10) : Option (Fin 10) :=
  let ring : List (Fin 10) := [0, 1, 2, 3, 4, 5, 6, 7, 8, 9]
  (ring.drop pointer.val ++ ring.take pointer.val).find? fun i =>
    match slots[i.val] with
    | .pending _ => true
    | .idle => false
    | .outstanding _ => false

/-- One start at the bus port (R174). -/
def startTransaction (s : State) : State :=
  match grantFrom s.bus.slots s.bus.pointer with
  | none => s
  | some i =>
      match s.bus.slots[i.val] with
      | .pending t => { s with bus := { slots := s.bus.slots.set i.val (.outstanding t), pointer := i + 1 } }
      | .idle => s
      | .outstanding _ => s

/-! ## Capture list -/

/-- The take claim of R60 (2): the oldest buffer, when there is one and the lane's capture writer is free. -/
def takeBuffer (l : Lane) (s : State) : Option (Word × State) :=
  match s.captureList, (s.lane l).capture with
  | b :: rest, none => some (b, { s with captureList := rest })
  | _, _ => none

/-- The return claim of R60 (3). -/
def returnBuffer (b : Word) (s : State) : State := { s with captureList := s.captureList ++ [b] }

/-- A buffer becomes the host's when its CAPTURE event has been written (R59). -/
def releaseHeld (ev : RxEvent) (s : State) : State :=
  match ev.kind with
  | .capture => { s with heldCount := s.heldCount - 1 }
  | .frame => s
  | .notice => s

end Sys2Proof.Machine
end

