-- ==== Sys2Proof/Machine/Flags.lean ====
section
/-! DEFINITION. The flag computations: request flags and holdoff timers of the event queues (R128 to R131, R133), the
fields of STATUS and CONTROL as they read (R162, R163, R179), and the interrupt output (R134). -/

namespace Sys2Proof.Machine

/-- A holdoff timer started now: none when holdoff is 0 (R129, R130, R131). -/
def startHoldoff (q : EventQueue) (now : Moment) : Option Moment :=
  if q.holdoff = 0 then none else some (now + q.holdoff)

/-- The index of the oldest entry the host has not acknowledged: tail minus unread, modulo size (R121). -/
def EventQueue.head (q : EventQueue) : Nat := (q.tail + q.size - q.unread) % q.size

/-- Moderation at the end of a write, `q` being the queue with unread already increased (R128, R129 (1), (2)). -/
def moderateWrite (q : EventQueue) (now : Moment) : EventQueue :=
  match q.mode with
  | .off => q
  | .count | .latched =>
      if q.threshold ≤ q.unread then { q with flag := true, holdoffDue := none }
      else if q.flag then q
      else
        match q.holdoffDue with
        | some _ => q
        | none => { q with holdoffDue := startHoldoff q now }

/-- An acknowledgment that brings unread to 0 cancels a running holdoff timer (R129). -/
def cancelEmptyHoldoff (q : EventQueue) : EventQueue :=
  if q.unread = 0 then { q with holdoffDue := none } else q

/-- A timer that the flag's clearing starts afresh while entries remain; a FAULTED queue starts none (R130, R131,
R133; DEDUCED, log entry 12). -/
def restartHoldoff (q : EventQueue) (now : Moment) : EventQueue :=
  match q.state with
  | .running => if q.unread = 0 then q else { q with holdoffDue := startHoldoff q now }
  | .absent => q
  | .faulted => q

/-- Moderation at an accepted acknowledgment, `q` being the queue with unread already reduced (R128, R130, R131). -/
def moderateAck (q : EventQueue) (clearNotice : Bool) (now : Moment) : EventQueue :=
  match q.mode with
  | .off => q
  | .count =>
      let q := cancelEmptyHoldoff q
      if q.flag ∧ q.unread < q.threshold then restartHoldoff { q with flag := false } now else q
  | .latched =>
      let q := cancelEmptyHoldoff q
      if clearNotice ∧ q.flag then
        if q.threshold ≤ q.unread then q else restartHoldoff { q with flag := false } now
      else q

/-- The holdoff timer runs out (R129 (3)). -/
def moderateHoldoff (q : EventQueue) : EventQueue :=
  { q with holdoffDue := none, flag := q.flag || decide (1 ≤ q.unread) }

/-- The interrupt output (R134). -/
def State.interrupt (s : State) : Bool :=
  s.irqEnable &&
    (s.eqs.toList.any (fun q => q.flag || q.fault) || s.adminFault || s.submitError || s.ackError)

/-- ENABLE reads 1 while the engine is RUNNING (R162). -/
def State.enabled (s : State) : Bool :=
  match s.engine with
  | .running => true
  | .off => false
  | .stopping => false

/-- Engine state codes (R176). -/
def EngineState.code : EngineState → BitVec 2
  | .off => 0
  | .running => 1
  | .stopping => 2

/-- CONTROL as it reads (R162, R179). -/
def State.control (s : State) : Word :=
  (0 : BitVec 29) ++ BitVec.ofBool s.irqEnable ++ (0 : BitVec 1) ++ BitVec.ofBool s.enabled

/-- The four fault bits, EQ3's first. -/
def State.faultBits (s : State) : BitVec 4 :=
  BitVec.ofBool (s.eq 3).fault ++ BitVec.ofBool (s.eq 2).fault ++ BitVec.ofBool (s.eq 1).fault ++
    BitVec.ofBool (s.eq 0).fault

/-- The four request flags, EQ3's first. -/
def State.requestFlags (s : State) : BitVec 4 :=
  BitVec.ofBool (s.eq 3).flag ++ BitVec.ofBool (s.eq 2).flag ++ BitVec.ofBool (s.eq 1).flag ++
    BitVec.ofBool (s.eq 0).flag

/-- STATUS as it reads (R163, R179). -/
def State.status (s : State) : Word :=
  (0 : BitVec 16) ++ s.faultBits ++ s.requestFlags ++ (0 : BitVec 3) ++ BitVec.ofBool s.ackError ++
    BitVec.ofBool s.submitError ++ BitVec.ofBool s.adminFault ++ s.engine.code

end Sys2Proof.Machine
end

