-- ==== Sys2Proof/Machine/Operands.lean ====
section
/-! DEFINITION. The fields of commands and records as the part judges them: enumerated codes (R176) and range checks in
field-number order, each giving the number of the first field out of range (R87, R88, R141, R145 to R158, R177). -/

namespace Sys2Proof.Machine

/-- The number of the first field whose check fails, in the order given. -/
def firstBad : List (Nat × Bool) → Option Nat
  | [] => none
  | (n, ok) :: rest => if ok then firstBad rest else some n

/-- A setting range that includes both ends (00_scope.md, 6 (9)). -/
def within (lo hi x : Nat) : Bool := decide (lo ≤ x) && decide (x ≤ hi)

/-- A host address is a multiple of `n`. -/
def aligned (n : Nat) (address : Word) : Bool := address.toNat % n == 0

/-! ## Enumerated codes (R176) -/

/-- Request kinds. -/
def requestKind (code : Byte) : Option RequestKind :=
  match code.toNat with
  | 1 => some .send
  | 2 => some .raw
  | 3 => some .hold
  | 4 => some .exchange
  | _ => none

/-- Lane modes; the code is in range. -/
def laneMode (code : Byte) : LaneMode :=
  match code.toNat with
  | 0 => .disabled
  | 1 => .txOnly
  | 2 => .rxOnly
  | 3 => .shared
  | _ => .split

/-- Moderation modes; the code is in range. -/
def moderation (code : Byte) : Moderation :=
  match code.toNat with
  | 0 => .off
  | 1 => .count
  | _ => .latched

/-- Match actions; the code is in range. -/
def matchAction (code : Byte) : Action :=
  match code.toNat with
  | 0 => .press
  | 1 => .end_
  | 2 => .both
  | 3 => .each
  | 4 => .count
  | 5 => .drop
  | _ => .wake

/-- Gate commands; the code is in range. -/
def gateCommand (code : Byte) : GateCommand :=
  match code.toNat with
  | 0 => .keep
  | 1 => .open_
  | _ => .close

/-- Encodings; the code is in range. -/
def encodingOf (code : Byte) : Encoding :=
  match code.toNat with
  | 0 => .pdist
  | 1 => .pwidth
  | _ => .biphase

/-- biphase_polarity; the code is in range. -/
def polarityOf (code : Byte) : Polarity :=
  match code.toNat with
  | 0 => .markFirstIsOne
  | _ => .markFirstIsZero

/-- An on/off field, in range. -/
def isOn (code : Byte) : Bool := code.toNat == 1

/-! ## Request entries (R87, R88) -/

/-- POLITE is bit 0 of the flags byte (R177 (4)). -/
def isPolite (e : RequestEntry) : Bool := e.flags.getLsbD 0

/-- repeat_form is CODE. -/
def wantsCode (e : RequestEntry) : Bool := e.repeatForm.toNat == 1

/-- Stage 2 of R88: the fields the kind uses, in field-number order. -/
def requestChecks (kind : RequestKind) (e : RequestEntry) : List (Nat × Bool) :=
  match kind with
  | .send =>
      [(4, within 0 15 e.profile.toNat), (5, within 1 128 e.bitCount.toNat), (6, within 0 15 e.repeats.toNat),
        (7, within 0 1 e.repeatForm.toNat)]
  | .raw =>
      [(4, within 0 15 e.profile.toNat || e.profile.toNat == 255), (6, within 0 15 e.repeats.toNat),
        (9, aligned 4 e.listAddress), (10, within 1 128 e.pairCount.toNat)]
  | .hold =>
      [(4, within 0 15 e.profile.toNat), (5, within 1 128 e.bitCount.toNat), (11, within 1 60000 e.holdLimit.toNat)]
  | .exchange =>
      [(4, within 0 15 e.profile.toNat), (5, within 1 128 e.bitCount.toNat), (6, e.repeats.toNat == 0),
        (12, within 1 8 e.attempts.toNat), (13, within 1 5000 e.replyWindow.toNat),
        (14, within 0 15 e.replyProfile.toNat)]

/-- Stage 3 of R88: the lane mode admits the kind (R22). -/
def modeAdmits (mode : LaneMode) (kind : RequestKind) : Bool :=
  match mode, kind with
  | .disabled, _ => false
  | .rxOnly, _ => false
  | .txOnly, .exchange => false
  | .txOnly, _ => true
  | .shared, _ => true
  | .split, _ => true

/-- The three stages of R88: the kind of a request that passes, or the status, the detail and the profile field of its
refusal (0 at stages 1 and 2, field 4 at stage 3: R98). -/
def validate (mode : LaneMode) (e : RequestEntry) : Except (Code × Byte × Byte) RequestKind :=
  match requestKind e.kind with
  | none => .error (.unknownKind, 0, 0)
  | some kind =>
      match firstBad (requestChecks kind e) with
      | some n => .error (.fieldRange, BitVec.ofNat 8 n, 0)
      | none => if modeAdmits mode kind then .ok kind else .error (.modeConflict, 0, e.profile)

/-- The profile slots a request names (R2, R89). -/
def namedSlots (kind : RequestKind) (e : RequestEntry) : List SlotId :=
  match kind with
  | .send => [toSlot e.profile]
  | .hold => [toSlot e.profile]
  | .exchange => [toSlot e.profile, toSlot e.replyProfile]
  | .raw => if e.profile.toNat = 255 then [] else [toSlot e.profile]

/-! ## Admin entries -/

/-- SET_EVENT_QUEUE (R145). -/
def eventQueueChecks (a : EventQueueArgs) : List (Nat × Bool) :=
  let deletes := a.size.toNat == 0
  [(3, within 0 3 a.queue.toNat), (4, deletes || aligned 64 a.base),
    (5, if deletes then a.queue.toNat != 0
      else [16, 32, 64, 128, 256, 512, 1024].contains a.size.toNat),
    (6, deletes || within 0 2 a.mode.toNat), (7, deletes || within 1 255 a.threshold.toNat)]

/-- SET_REQUEST_QUEUE (R146). -/
def requestQueueChecks (a : RequestQueueArgs) : List (Nat × Bool) :=
  let deletes := a.size.toNat == 0
  [(3, within 0 3 a.lane.toNat), (4, deletes || aligned 64 a.base),
    (5, [0, 4, 8, 16, 32, 64, 128, 256].contains a.size.toNat),
    (6, deletes || within 0 3 a.completionQueue.toNat)]

/-- LOAD_PROFILE (R147). -/
def loadProfileChecks (slot : Byte) (address : Word) : List (Nat × Bool) :=
  [(3, within 0 15 slot.toNat), (4, aligned 4 address)]

/-- CLEAR_PROFILE (R147). -/
def clearProfileChecks (slot : Byte) : List (Nat × Bool) := [(3, within 0 15 slot.toNat)]

/-- LOAD_FILTER (R148): with valid 0 the later fields are ignored. -/
def filterChecks (a : FilterArgs) : List (Nat × Bool) :=
  let unused := a.valid.toNat == 0
  [(3, within 0 63 a.entry.toNat), (4, within 0 1 a.valid.toNat), (6, unused || within 0 15 a.profile.toNat),
    (9, unused || within 0 6 a.action.toNat), (10, unused || within 0 3 a.target.toNat)]

/-- SET_LANE (R149). -/
def laneChecks (a : LaneArgs) : List (Nat × Bool) :=
  let n := a.armedCount.toNat
  [(3, within 0 3 a.lane.toNat), (4, within 0 4 a.mode.toNat), (5, within 0 1 a.inputLevel.toNat),
    (6, within 0 1 a.outputLevel.toNat), (9, within 0 10000 a.deferLimit.toNat),
    (10, within 100 65535 a.settleSilence.toNat), (11, within 0 4 n),
    (12, decide (n < 1) || within 0 15 a.armed1.toNat), (13, decide (n < 2) || within 0 15 a.armed2.toNat),
    (14, decide (n < 3) || within 0 15 a.armed3.toNat), (15, decide (n < 4) || within 0 15 a.armed4.toNat),
    (16, within 0 1 a.reportErrors.toNat), (17, within 0 1 a.capture.toNat),
    (18, within 0 1 a.defaultAction.toNat), (19, within 0 3 a.defaultEq.toNat),
    (20, within 0 1 a.guardMode.toNat), (21, within 1 60000 a.guardWindow.toNat),
    (22, within 0 2 a.gateCommand.toNat)]

/-- The armed list a SET_LANE carries: armed profiles 1 to armed count (R149 (1)). -/
def armedList (a : LaneArgs) : List SlotId :=
  ([a.armed1, a.armed2, a.armed3, a.armed4].take a.armedCount.toNat).map toSlot

/-- The field number of the first second appearance in an armed list whose first member is field `n` (R149 (1)). -/
def firstDuplicate (n : Nat) (seen : List SlotId) : List SlotId → Option Nat
  | [] => none
  | x :: rest => if seen.contains x then some n else firstDuplicate (n + 1) (x :: seen) rest

/-- The field number of the first member of an armed list that is not VALID or has leader_mark 0 (R149 (2)). -/
def firstUnarmable (s : State) (n : Nat) : List SlotId → Option Nat
  | [] => none
  | x :: rest =>
      if (s.slot x).isValid && (s.profile x).leaderMark != 0 then firstUnarmable s (n + 1) rest else some n

/-- The settings a SET_LANE carries (R37). -/
def laneSettings (a : LaneArgs) : LaneSettings :=
  { mode := laneMode a.mode, inputHigh := isOn a.inputLevel, outputHigh := isOn a.outputLevel,
    glitchWidth := a.glitchWidth.toNat, echoGuard := a.echoGuard.toNat, deferLimit := a.deferLimit.toNat,
    settleSilence := a.settleSilence.toNat, armed := armedList a, reportErrors := isOn a.reportErrors,
    capture := isOn a.capture, defaultDeliver := a.defaultAction.toNat == 0, defaultEq := toFour a.defaultEq,
    guarded := isOn a.guardMode, guardWindow := a.guardWindow.toNat }

/-- ABORT_LANE (R152). -/
def abortChecks (lane scope : Byte) : List (Nat × Bool) :=
  [(3, within 0 3 lane.toNat), (4, within 0 1 scope.toNat)]

/-- RESET_LANE (R154) and RELEASE (R156): field 3 is the lane. -/
def laneOnlyChecks (lane : Byte) : List (Nat × Bool) := [(3, within 0 3 lane.toNat)]

/-- POST_CAPTURE_BUFFER (R157). -/
def captureBufferChecks (address : Word) : List (Nat × Bool) := [(3, aligned 4 address)]

/-- READ_COUNTERS (R158). -/
def counterChecks (a : CounterArgs) : List (Nat × Bool) :=
  let isMatch := a.source.toNat == 1
  let isLane := a.source.toNat == 0
  [(3, within 0 1 a.source.toNat), (4, isMatch || within 0 3 a.lane.toNat),
    (5, isLane || within 0 63 a.firstEntry.toNat),
    (6, isLane || (within 1 64 a.entryCount.toNat &&
      decide (a.firstEntry.toNat + a.entryCount.toNat ≤ 64))),
    (7, aligned 4 a.address), (8, within 0 1 a.clear.toNat)]

/-- The counters a READ_COUNTERS names (R158). -/
def counterSource (a : CounterArgs) : CounterSource :=
  if a.source.toNat = 0 then .lane (toFour a.lane) else .hits a.firstEntry.toNat a.entryCount.toNat

/-- The match entry contents a LOAD_FILTER carries (R148); none when valid is 0. -/
def filterOf (a : FilterArgs) : Option Filter :=
  if isOn a.valid then
    some { lanes := a.lanes.setWidth 4, profile := toSlot a.profile, mask := a.mask, value := a.value,
           action := matchAction a.action, target := toFour a.target, tag := a.entryTag }
  else none

end Sys2Proof.Machine
end

