-- ==== Sys2Proof/Machine/Records.lean ====
section
/-! DEFINITION. The records the part writes into host memory, byte for byte (R178, 10.3): events, counter blocks and
capture buffers; and the code table (08, 8.7). -/

namespace Sys2Proof.Machine

/-- The number of a result or status code (08, 8.7). -/
def Code.number : Code → Byte
  | .ok => 0
  | .unknownKind => 1
  | .fieldRange => 2
  | .profileInvalid => 3
  | .profileInUse => 4
  | .queueBusy => 5
  | .laneBusy => 6
  | .modeConflict => 7
  | .notHolding => 8
  | .listFull => 9
  | .fetchError => 10
  | .writeError => 11
  | .aborted => 12
  | .released => 13
  | .holdLimit => 14
  | .noReply => 15
  | .lineBusy => 16
  | .queueFault => 17
  | .broken => 32
  | .short => 33
  | .long => 34
  | .captureFull => 35
  | .lineStuck => 36

/-- The two-bit receive status of a FRAME, CAPTURE or NOTICE event (R178 (3)); a status the kind does not carry is not
written. -/
def rxStatus (kind : RxKind) (status : Code) : BitVec 2 :=
  match kind, status with
  | .frame, .broken => 1
  | .frame, .short => 2
  | .frame, .long => 3
  | .capture, .captureFull => 1
  | .capture, .writeError => 2
  | _, _ => 0

/-- Event kind codes (R176). -/
def rxKindCode : RxKind → BitVec 3
  | .frame => 3
  | .capture => 4
  | .notice => 5

/-- Press phase codes (R176). -/
def phaseCode : PressPhase → BitVec 2
  | .single => 0
  | .press => 1
  | .repeat_ => 2
  | .end_ => 3

/-- One bit as a field. -/
def bit (b : Bool) : BitVec 1 := BitVec.ofBool b

/-- Byte 0 of every event: phase bit, two bits, source, kind (10.3.1, 10.3.2). -/
def eventHead (phase : Bool) (two : BitVec 2) (source : Nat) (kind : BitVec 3) : Byte :=
  bit phase ++ two ++ BitVec.ofNat 2 source ++ kind

/-- A COMPLETION of lane `l` (10.3.1). -/
def completionBytes (phase : Bool) (l : Lane) (queueHead : Nat) (c : Completion) : List Byte :=
  [eventHead phase 0 l.val 1, c.status.number, c.profile, BitVec.ofNat 8 c.bitCount] ++ halfBytes c.tag ++
    [0, 0] ++ wordBytes c.timestamp ++ [BitVec.ofNat 8 queueHead, c.detail] ++ halfBytes c.count ++
    payloadBytes c.payload

/-- An ADMIN_DONE (10.3.1). -/
def adminDoneBytes (phase : Bool) (adminHead : Nat) (d : AdminDone) : List Byte :=
  [eventHead phase 0 0 2, d.status.number, d.profile, 0] ++ halfBytes d.tag ++ [0, 0] ++
    wordBytes d.timestamp ++ [BitVec.ofNat 8 adminHead, 0] ++ halfBytes d.detail ++ payloadBytes 0

/-- A FRAME, CAPTURE or NOTICE event of lane `l` (10.3.2). -/
def rxEventBytes (phase : Bool) (l : Lane) (ev : RxEvent) : List Byte :=
  [eventHead phase (phaseCode ev.phase) l.val (rxKindCode ev.kind),
    BitVec.ofNat 4 ev.profile.val ++ (0 : BitVec 1) ++ bit ev.wake ++ rxStatus ev.kind ev.status,
    ev.lost, BitVec.ofNat 8 ev.bitCount] ++ halfBytes ev.tag ++ halfBytes ev.repeatCount ++
    wordBytes ev.timestamp ++ wordBytes ev.aux ++ payloadBytes ev.payload

/-- A capture buffer's pairs, four bytes each (R58, 10.2.4). -/
def captureBytes (pairs : List CapturePair) : List Byte :=
  pairs.flatMap fun p => halfBytes (BitVec.ofNat 16 p.mark) ++ halfBytes (BitVec.ofNat 16 p.space)

/-- A counter block: each counter in four bytes, one after another (R158, R178 (4)). -/
def counterBytes (counters : List Word) : List Byte := counters.flatMap wordBytes

/-- The counters a READ_COUNTERS reads at their owner (R158). -/
def State.counterBlock (s : State) : CounterSource → List Word
  | .lane l => (s.lane l).counters.toList
  | .hits first count => ((s.matchTable.toList.drop first).take count).map MatchEntry.hits

/-- The clear of a READ_COUNTERS at the owner (R159). -/
def clearCounters (source : CounterSource) (s : State) : State :=
  match source with
  | .lane l => s.modLane l fun x => { x with counters := countersReset }
  | .hits first count =>
      { s with matchTable := Vector.ofFn fun i : EntryId =>
          if first ≤ i.val ∧ i.val < first + count then { s.entry i with hits := 0 } else s.entry i }

end Sys2Proof.Machine
end

