-- ==== Sys2Proof/Machine/EventWriter.lean ====
section
/-! DEFINITION. The event writer (07): offers, the round-robin choice, acknowledgment, SET_EVENT_QUEUE's claim; and the
outbox (04, 4.1), which hands it a lane's receive-side events. -/

namespace Sys2Proof.Machine

/-- The nine writers in ring order (R124). -/
def writerRing : List Writer :=
  [.commandUnit, .sequencer 0, .sequencer 1, .sequencer 2, .sequencer 3, .outbox 0, .outbox 1, .outbox 2, .outbox 3]

/-- A writer's place in the ring (R124). -/
def writerIndex : Writer → Fin 9
  | .commandUnit => 0
  | .sequencer l => ⟨l.val + 1, by omega⟩
  | .outbox l => ⟨l.val + 5, by omega⟩

/-- The event queue a writer's offer targets, when it offers an event (R124). -/
def State.offer (s : State) : Writer → Option EqId
  | .commandUnit =>
      match s.admin.state with
      | .posting _ => some 0
      | .stopped | .idle | .fetch | .executing _ _ | .halted => none
  | .sequencer l => (s.lane l).seq.completion.map Completion.target
  | .outbox l => (s.lane l).outbox.events.head?.map RxEvent.target

/-- The 32 bytes of a writer's event with the phase bit given (R123, R125). -/
def State.eventBytes (s : State) (phase : Bool) : Writer → List Byte
  | .commandUnit =>
      match s.admin.state, s.admin.queue with
      | .posting done, some q => adminDoneBytes phase q.head done
      | _, _ => []
  | .sequencer l =>
      match (s.lane l).seq.completion with
      | some c => completionBytes phase l (s.lane l).queue.head c
      | none => []
  | .outbox l =>
      match (s.lane l).outbox.events with
      | ev :: _ => rxEventBytes phase l ev
      | [] => []

/-- A queue can take an event: RUNNING with unread below size (R124, R126). -/
def EventQueue.canTake (q : EventQueue) : Bool := q.state == .running && decide (q.unread < q.size)

/-- The queue a writer would be served into now (R124). -/
def State.servable (s : State) (w : Writer) : Option EqId :=
  match s.offer w with
  | none => none
  | some q => if (s.eq q).canTake then some q else none

/-- The first writer that can be served, from the pointer onward in ring order, and its queue (R124). -/
def State.nextServed (s : State) : Option (Writer × EqId) :=
  (writerRing.drop s.writer.pointer.val ++ writerRing.take s.writer.pointer.val).findSome? fun w =>
    (s.servable w).map fun q => (w, q)

/-- The event writer's choice, made when it has no write in flight (R124): the chosen event goes out as one write of 32
bytes at base + 32 × tail with the queue's phase (R125). -/
def chooseEvent (s : State) : State :=
  match s.engine, s.writer.inFlight with
  | .running, none =>
      match s.nextServed with
      | none => s
      | some (w, q) =>
          let e := s.eq q
          askBus .eventWriter
            { purpose := .event, address := e.base + 32 * BitVec.ofNat 32 e.tail, length := 32,
              data := s.eventBytes e.phase w }
            { s with writer := { s.writer with inFlight := some (w, q) } }
  | _, _ => s

/-- A queue after an acknowledged write: tail, phase and unread move, and moderation acts (R125 (1), (2), (4)). -/
def EventQueue.written (q : EventQueue) (now : Moment) : EventQueue :=
  let wraps := q.tail + 1 == q.size
  moderateWrite
    { q with tail := if wraps then 0 else q.tail + 1, phase := if wraps then !q.phase else q.phase,
             unread := q.unread + 1 } now

/-- A queue after a write that ended with a bus error (R135 (1), (2), (4)). -/
def EventQueue.failed (q : EventQueue) : EventQueue :=
  { q with state := .faulted, fault := true, holdoffDue := none }

/-- The pointer moves past the writer served, and no write is in flight (R124). -/
def writeOver (w : Writer) (s : State) : State :=
  { s with writer := { pointer := writerIndex w + 1, inFlight := none } }

/-- How many entries a new head acknowledges, when the write is accepted (R127). -/
def EventQueue.acknowledges (q : EventQueue) (newHead : Nat) : Option Nat :=
  let d := (newHead + q.size - q.head) % q.size
  if (q.state == .running || q.state == .faulted) && decide (newHead < q.size) && decide (d ≤ q.unread) then some d
  else none

/-- A write to EVENT_ACK (R127, R130, R131, R166): queue id in bits 0 to 2, new head in bits 16 to 25, clear-notice in
bit 31. A rejected write sets ACK_ERROR and changes nothing else. -/
def acknowledge (word : Word) (s : State) : State :=
  let id := (word.extractLsb' 0 3).toNat
  let newHead := (word.extractLsb' 16 10).toNat
  if h : id < 4 then
    let q : EqId := ⟨id, h⟩
    match (s.eq q).acknowledges newHead with
    | none => { s with ackError := true }
    | some d =>
        chooseEvent
          (s.setEq q (moderateAck { s.eq q with unread := (s.eq q).unread - d } (word.getLsbD 31) s.clock))
  else { s with ackError := true }

/-- An event write to the queue is in flight (R122). -/
def State.writingTo (s : State) (q : EqId) : Bool :=
  match s.writer.inFlight with
  | none => false
  | some (_, q') => q' == q

/-- SET_EVENT_QUEUE's claim at the event writer (R122): none for QUEUE_BUSY. -/
def claimEventQueue (q : EqId) (a : EventQueueArgs) (s : State) : Option State :=
  let e := s.eq q
  let accepts := match e.state with
    | .absent => true
    | .faulted => true
    | .running => e.unread == 0 && !s.writingTo q
  if accepts then
    if a.size.toNat = 0 then
      some (s.setEq q { e with state := .absent, unread := 0, flag := false, holdoffDue := none, fault := false })
    else
      some (s.setEq q
        { state := .running, base := a.base, size := a.size.toNat, tail := 0, phase := true, unread := 0,
          mode := moderation a.mode, threshold := a.threshold.toNat, holdoff := a.holdoff.toNat, flag := false,
          holdoffDue := none, fault := false })
  else none

/-! ## The outbox -/

/-- An event enters the outbox: appended with the lost count, which returns to 0, or discarded and counted as lost; a
discarded CAPTURE returns its buffer (R62, R63). -/
def enterOutbox (l : Lane) (ev : RxEvent) (s : State) : State :=
  let o := (s.lane l).outbox
  if o.events.length < Config.outboxDepth then
    s.modLane l fun x =>
      { x with outbox := { o with events := o.events ++ [{ ev with lost := o.lost }], lost := 0 } }
  else
    let s := bump l .lostEvents (s.modLane l fun x => { x with outbox := { o with lost := satInc o.lost } })
    match ev.kind with
    | .capture => returnBuffer ev.aux s
    | .frame => s
    | .notice => s

/-- The event of the outbox whose write has ended leaves it (R64, R125 (3)); an event kept at a RESET_LANE for its
write is the one written (R155). -/
def leaveOutbox (l : Lane) (s : State) : State :=
  let o := (s.lane l).outbox
  match o.settling with
  | some ev => releaseHeld ev (s.modLane l fun x => { x with outbox := { o with settling := none } })
  | none =>
      match o.events with
      | [] => s
      | ev :: rest => releaseHeld ev (s.modLane l fun x => { x with outbox := { o with events := rest } })

/-- A failed write of an event kept at a RESET_LANE discards it, and a CAPTURE's buffer returns to the list (R155). Any
other event stays (R135 (3)). -/
def dropSettling (l : Lane) (s : State) : State :=
  let o := (s.lane l).outbox
  match o.settling with
  | none => s
  | some ev =>
      let s := s.modLane l fun x => { x with outbox := { o with settling := none } }
      match ev.kind with
      | .capture => returnBuffer ev.aux s
      | .frame => s
      | .notice => s

end Sys2Proof.Machine
end

