-- ==== Sys2Proof/Machine/Profiles.lean ====
section
/-! DEFINITION. Pulse profiles (01_pulse_profiles.md): tolerance windows, rate learning, the load checks, and the line
forms of frames and repeat codes with their durations. -/

namespace Sys2Proof.Machine

/-! ## Windows and scales -/

/-- Half the width of the tolerance window of a nominal (R13). -/
def halfWidth (nominal tolerance : Nat) : Nat := nominal * tolerance / 100

/-- A measured interval matches a nominal: it differs by at most the half-width (R13). -/
def inWindow (d nominal tolerance : Nat) : Bool :=
  decide (d ≤ nominal + halfWidth nominal tolerance) && decide (nominal ≤ d + halfWidth nominal tolerance)

/-- A nominal under a scale of `scale` 256ths (R15). -/
def scaled (nominal scale : Nat) : Nat := nominal * scale / 256

/-- The measured interval lies in the window of the scaled nominal (R15). -/
def inScaled (p : Profile) (scale d nominal : Nat) : Bool := inWindow d (scaled nominal scale) p.tolerance

/-- The scale of a measured mark against a leader or repeat mark, when it is accepted (R14); 256 for a profile that does
not learn, when the mark lies in the window (R41). -/
def markScale (p : Profile) (m nominal : Nat) : Option Nat :=
  if p.learn then
    let scale := m * 256 / nominal
    if p.learnMin * 256 ≤ scale * 100 ∧ scale * 100 ≤ p.learnMax * 256 then some scale else none
  else if inWindow m nominal p.tolerance then some 256
  else none

/-- A profile has a repeat code (R9). -/
def Profile.hasRepeat (p : Profile) : Bool := p.repeatMark != 0

/-- A profile continues presses (R10, R69 (5)). -/
def Profile.continuesPresses (p : Profile) : Bool := p.hasRepeat || p.collapseIdentical

/-- The closing mark of the repeat code (R9). -/
def Profile.closingMark (p : Profile) : Nat := if p.trailerMark = 0 then p.repeatMark else p.trailerMark

/-! ## Load checks -/

/-- Stage 1 of R17: each field against its setting range, in field-number order. -/
def recordRanges (r : ProfileRecord) : List (Nat × Bool) :=
  let pd := r.encoding.toNat == 0
  let pw := r.encoding.toNat == 1
  let bp := r.encoding.toNat == 2
  let learns := r.learn.toNat != 0
  [(1, within 0 2 r.encoding.toNat), (2, !bp || within 0 1 r.biphasePolarity.toNat),
    (4, (r.carrierHigh.toNat == 0) == (r.carrierLow.toNat == 0)),
    (6, r.leaderMark.toNat == 0 || decide (1 ≤ r.leaderSpace.toNat)), (7, decide (1 ≤ r.mark0.toNat)),
    (8, bp || decide (1 ≤ r.space0.toNat)),
    (9, if pd then r.mark1 == r.mark0 else !pw || decide (1 ≤ r.mark1.toNat)),
    (10, !pd || decide (1 ≤ r.space1.toNat)),
    (11, if pd then decide (1 ≤ r.trailerMark.toNat) else !bp || r.trailerMark.toNat == 0),
    (12, within 1 128 r.bitsMin.toNat), (13, within r.bitsMin.toNat 128 r.bitsMax.toNat),
    (14, decide (1 ≤ r.endSilence.toNat)), (18, (r.repeatMark.toNat == 0) == (r.repeatSpace.toNat == 0)),
    (19, within 1 1000 r.repeatWindow.toNat), (20, within 0 1 r.collapseIdentical.toNat),
    (21, within 5 40 r.tolerance.toNat), (22, within 0 1 r.learn.toNat),
    (23, !learns || within 25 100 r.learnMin.toNat), (24, !learns || within 100 400 r.learnMax.toNat)]

/-- The windows of two nominals overlap (R18). -/
def windowsOverlap (x y tolerance : Nat) : Bool :=
  let a := min x y
  let b := max x y
  decide (b ≤ a + halfWidth a tolerance + halfWidth b tolerance)

/-- The profile a record holds, once it passes its checks (R16). -/
def profileOf (r : ProfileRecord) : Profile :=
  { encoding := encodingOf r.encoding, polarity := polarityOf r.biphasePolarity,
    carrierHigh := r.carrierHigh.toNat, carrierLow := r.carrierLow.toNat, leaderMark := r.leaderMark.toNat,
    leaderSpace := r.leaderSpace.toNat, mark0 := r.mark0.toNat, space0 := r.space0.toNat,
    mark1 := r.mark1.toNat, space1 := r.space1.toNat, trailerMark := r.trailerMark.toNat,
    bitsMin := r.bitsMin.toNat, bitsMax := r.bitsMax.toNat, endSilence := r.endSilence.toNat,
    minGap := r.minGap.toNat, framePeriod := r.framePeriod.toNat, repeatMark := r.repeatMark.toNat,
    repeatSpace := r.repeatSpace.toNat, repeatWindow := r.repeatWindow.toNat,
    collapseIdentical := isOn r.collapseIdentical, tolerance := r.tolerance.toNat, learn := isOn r.learn,
    learnMin := r.learnMin.toNat, learnMax := r.learnMax.toNat }

/-- Stage 3 of R17: the windows of R18 that must not overlap, with the detail of a failure. -/
def separations (p : Profile) : List (Nat × Bool) :=
  match p.encoding with
  | .pdist => [(10, !windowsOverlap p.space0 p.space1 p.tolerance)]
  | .pwidth =>
      [(9, !windowsOverlap p.mark0 p.mark1 p.tolerance),
        (11, p.trailerMark == 0 || (!windowsOverlap p.trailerMark p.mark0 p.tolerance &&
          !windowsOverlap p.trailerMark p.mark1 p.tolerance))]
  | .biphase => [(7, !windowsOverlap p.mark0 (2 * p.mark0) p.tolerance)]

/-- The nominals whose windows end silence must lie above (R19). -/
def innerSpaces (p : Profile) : List Nat :=
  (if p.leaderMark = 0 then [] else [p.leaderSpace]) ++
  (match p.encoding with
    | .pdist => [p.space0, p.space1]
    | .pwidth => [p.space0]
    | .biphase => 2 * p.mark0 :: (if p.leaderMark = 0 then [] else [p.leaderSpace + p.mark0])) ++
  (if p.repeatMark = 0 then [] else [p.repeatSpace])

/-- Stages 2 to 4 of R17. -/
def profileChecks (p : Profile) : List (Nat × Bool) :=
  (6, p.encoding != .biphase || p.leaderMark == 0 || decide (p.mark0 ≤ p.leaderSpace)) ::
    (separations p ++
      [(14, (innerSpaces p).all fun n => decide (n + halfWidth n p.tolerance < p.endSilence))])

/-- The number of the field a profile record fails on, by the four stages of R17. -/
def recordFault (r : ProfileRecord) : Option Nat :=
  match firstBad (recordRanges r) with
  | some n => some n
  | none => firstBad (profileChecks (profileOf r))

/-! ## Line forms -/

/-- Neighbouring intervals of one level form one interval (R7). -/
def mergeLevels : List Interval → List Interval
  | [] => []
  | x :: rest =>
      match mergeLevels rest with
      | [] => [x]
      | y :: more =>
          if x.mark = y.mark then { mark := x.mark, length := x.length + y.length } :: more else x :: y :: more

/-- The leader, absent when leader_mark is 0 (R5, R6, R7). -/
def leaderForm (p : Profile) : List Interval :=
  if p.leaderMark = 0 then [] else [⟨true, p.leaderMark⟩, ⟨false, p.leaderSpace⟩]

/-- The PDIST line form of bits `i` to `i + n - 1` (R5 (2)). -/
def pdistBits (p : Profile) (payload : Payload) (i : Nat) : Nat → List Interval
  | 0 => []
  | n + 1 =>
      ⟨true, p.mark0⟩ :: ⟨false, if payload.getLsbD i then p.space1 else p.space0⟩ ::
        pdistBits p payload (i + 1) n

/-- The PWIDTH line form of bits `i` to `i + n - 1`: a space after every bit mark but the last (R6 (2)). -/
def pwidthBits (p : Profile) (payload : Payload) (i : Nat) : Nat → List Interval
  | 0 => []
  | n + 1 =>
      let bit : Interval := ⟨true, if payload.getLsbD i then p.mark1 else p.mark0⟩
      if n = 0 then [bit] else bit :: ⟨false, p.space0⟩ :: pwidthBits p payload (i + 1) n

/-- A bit's first half is a mark (R7). -/
def markFirst (polarity : Polarity) (bit : Bool) : Bool :=
  match polarity with
  | .markFirstIsOne => bit
  | .markFirstIsZero => !bit

/-- The half-bits of bits `i` to `i + n - 1` (R7). -/
def halfBits (p : Profile) (payload : Payload) (i : Nat) : Nat → List Interval
  | 0 => []
  | n + 1 =>
      let first := markFirst p.polarity (payload.getLsbD i)
      ⟨first, p.mark0⟩ :: ⟨!first, p.mark0⟩ :: halfBits p payload (i + 1) n

/-- A line form without the spaces after its last mark (R7 (3), R8). -/
def dropLastSpaces (form : List Interval) : List Interval :=
  (form.reverse.dropWhile fun x => !x.mark).reverse

/-- The line form of a frame of `k` bits of the payload (R5, R6, R7). -/
def frameForm (p : Profile) (payload : Payload) (k : Nat) : List Interval :=
  match p.encoding with
  | .pdist => leaderForm p ++ pdistBits p payload 0 k ++ [⟨true, p.trailerMark⟩]
  | .pwidth =>
      leaderForm p ++ pwidthBits p payload 0 k ++
        (if p.trailerMark = 0 then [] else [⟨false, p.space0⟩, ⟨true, p.trailerMark⟩])
  | .biphase => dropLastSpaces (mergeLevels (leaderForm p ++ halfBits p payload 0 k))

/-- The line form of the repeat code (R9). -/
def repeatForm (p : Profile) : List Interval :=
  [⟨true, p.repeatMark⟩, ⟨false, p.repeatSpace⟩, ⟨true, p.closingMark⟩]

/-- The transmission of a RAW pair list: the last pair's space is not driven (R95). -/
def rawForm : List RawPair → List Interval
  | [] => []
  | p :: rest =>
      if rest.isEmpty then [⟨true, p.mark.toNat⟩]
      else ⟨true, p.mark.toNat⟩ :: ⟨false, p.space.toNat⟩ :: rawForm rest

/-- The duration of a line form (R8). -/
def duration (form : List Interval) : Nat := (form.map Interval.length).sum

/-- The check of a fetched pair list: every mark at least 1 µs, a space of 0 in the last pair alone (R95). -/
def pairListOk : List RawPair → Bool
  | [] => true
  | p :: rest => decide (1 ≤ p.mark.toNat) && (rest.isEmpty || decide (1 ≤ p.space.toNat)) && pairListOk rest

/-- The last pair's space (R95). -/
def lastSpace (pairs : List RawPair) : Nat :=
  match pairs.getLast? with
  | none => 0
  | some p => p.space.toNat

/-! ## Driving the output (R28) -/

/-- A modulated mark of `d` µs as phases of the output, in ticks of 1/12 µs: whole carrier cycles, then a cut one. -/
def carrierPhases (high low d : Nat) : List (Bool × Nat) :=
  let c := high + low
  let q := 12 * d / c
  let r := 12 * d - q * c
  (List.replicate q [(true, high), (false, low)]).flatten ++
    (if r = 0 then []
     else if r ≤ high then [(true, r)]
     else [(true, high), (false, r - high)])

/-- A transmission's output as phases, active or idle, in ticks of 1/12 µs (R28). -/
def outputPhases (t : Transmission) : List (Bool × Nat) :=
  t.intervals.flatMap fun x =>
    if !x.mark then [(false, 12 * x.length)]
    else if t.carrierHigh = 0 ∧ t.carrierLow = 0 then [(true, 12 * x.length)]
    else carrierPhases t.carrierHigh t.carrierLow x.length

/-- The output is active `tick` ticks after the start of these phases. -/
def activeAt : List (Bool × Nat) → Nat → Bool
  | [], _ => false
  | (level, n) :: rest, tick => if tick < n then level else activeAt rest (tick - n)

/-- The moment a transmission's last mark ends (R28). -/
def Transmission.endsAt (t : Transmission) : Moment := t.start + duration t.intervals

/-- The level of a lane's output pin `sub` ticks of 1/12 µs after the present reading of the time base: idle when no
transmission is on the lane (R23, R24, R28). -/
def State.outputPin (s : State) (l : Lane) (sub : Nat) : Bool :=
  let x := s.lane l
  match x.tx with
  | none => !x.settings.outputHigh
  | some t =>
      if activeAt (outputPhases t) (12 * (s.clock - t.start) + sub) then x.settings.outputHigh
      else !x.settings.outputHigh

end Sys2Proof.Machine
end

