-- ==== Sys2Proof/Machine/Press.lean ====
section
/-! DEFINITION. The press tracker, the gate and the match table's lookup (04, 4.2 to 4.6). -/

namespace Sys2Proof.Machine

/-- A good frame on its way from the decoder (R49). -/
structure GoodFrame where
  profile : SlotId
  bitCount : Nat
  payload : Payload
  start : Moment
  deriving DecidableEq, Repr

/-- A FRAME event of the press tracker enters the outbox; made while the gate of a guarded lane is OPEN, it restarts the
gate-window timer (R77, R80). -/
def makeFrame (l : Lane) (ev : RxEvent) (s : State) : State :=
  let x := s.lane l
  let s := if x.settings.guarded && x.gateOpen then
      s.modLane l fun x => { x with gateDue := some (s.clock + x.settings.guardWindow * 1000) }
    else s
  enterOutbox l ev s

/-- A FRAME event about a frame, with the press phase given (R77). -/
def frameEvent (f : GoodFrame) (phase : PressPhase) (wake : Bool) (target : EqId) (tag : Half) (timestamp : Word) :
    RxEvent :=
  { kind := .frame, status := .ok, target := target, profile := f.profile, bitCount := f.bitCount,
    payload := f.payload, phase := phase, wake := wake, repeatCount := 0, tag := tag, aux := 0,
    timestamp := timestamp, lost := 0 }

/-- A REPEAT or END event of an open press (R77). -/
def pressEvent (p : Press) (phase : PressPhase) (aux timestamp : Word) : RxEvent :=
  { kind := .frame, status := .ok, target := p.target, profile := p.profile, bitCount := p.bitCount,
    payload := p.payload, phase := phase, wake := false, repeatCount := p.repeatCount, tag := p.tag, aux := aux,
    timestamp := timestamp, lost := 0 }

/-- The open press closes, with its END when one is owed and the press is DELIVERING (R72). -/
def closePress (l : Lane) (s : State) : State :=
  match (s.lane l).press with
  | none => s
  | some p =>
      let s := if p.endOwed && p.delivering then
          makeFrame l (pressEvent p .end_ p.heldDuration s.timeBase) s
        else s
      s.modLane l fun x => { x with press := none }

/-- A press after one more repeat counted to it, with its window started from the repeat (R68, R70, R71). -/
def Press.renewed (p : Press) (start : Moment) (window : Nat) : Press :=
  { p with repeatCount := satInc p.repeatCount,
           heldDuration := satAdd p.heldDuration (stamp start - p.lastTime),
           lastTime := stamp start,
           windowDue := start + window * 1000 }

/-- A repeat is counted to the open press `p`; EACH makes a REPEAT event of a DELIVERING press (R68, R70, R76). -/
def countRepeat (l : Lane) (p : Press) (start : Moment) (s : State) : State :=
  let p' := p.renewed start (s.profile p.profile).repeatWindow
  let s := s.modLane l fun x => { x with press := some p' }
  match p.action, p.delivering with
  | .each, true => makeFrame l (pressEvent p' .repeat_ 0 (stamp start)) s
  | _, _ => s

/-! ## The match table -/

/-- A frame of lane `l` hits a match entry (R74). -/
def MatchEntry.isHit (e : MatchEntry) (l : Lane) (f : GoodFrame) : Bool :=
  match e.filter with
  | none => false
  | some m =>
      m.lanes.getLsbD l.val && m.profile == f.profile && (f.payload.setWidth 64 &&& m.mask) == m.value

/-- The entry a lookup finds: the first hit in index order (R74). -/
def State.firstHit (s : State) (l : Lane) (f : GoodFrame) : Option EntryId :=
  (List.finRange 64).find? fun i => (s.entry i).isHit l f

/-- The press tracker's answer to a lookup: action, target and tag (R69 (2)). -/
structure Verdict where
  action : Action
  target : EqId
  tag : Half
  deriving DecidableEq, Repr

/-- A lookup: the hit count of the entry found increases, and without one the lane's default answers (R74). -/
def lookup (l : Lane) (f : GoodFrame) (s : State) : Verdict × State :=
  match s.firstHit l f with
  | some i =>
      match (s.entry i).filter with
      | some m =>
          ({ action := m.action, target := m.target, tag := m.tag },
            s.setEntry i { s.entry i with hits := satInc (s.entry i).hits })
      | none => ({ action := .drop, target := 0, tag := 0 }, s)
  | none =>
      let x := (s.lane l).settings
      ({ action := if x.defaultDeliver then .deliver else .drop, target := x.defaultEq, tag := 0 }, s)

/-! ## A new press -/

/-- The phase of the event an action makes at a DELIVERING press's first frame, and whether its press owes an END;
`continues` tells a press from a single (R76, R80). -/
def firstEvent (action : Action) (continues : Bool) : Option PressPhase × Bool :=
  match action, continues with
  | .press, true => (some .press, false)
  | .end_, true => (none, true)
  | .both, true => (some .press, true)
  | .each, true => (some .press, false)
  | .wake, true => (some .press, true)
  | .press, false => (some .single, false)
  | .end_, false => (some .end_, false)
  | .both, false => (some .single, false)
  | .each, false => (some .single, false)
  | .wake, false => (some .single, false)
  | .deliver, _ => (some .single, false)
  | .count, _ => (none, false)
  | .drop, _ => (none, false)

/-- The first events of a DELIVERING press (R69 (4), R76): an END made at once carries the time base, any other event
the frame's timestamp. -/
def firstEvents (l : Lane) (f : GoodFrame) (v : Verdict) (phase : Option PressPhase) (s : State) : State :=
  match phase with
  | none => s
  | some .end_ => makeFrame l (frameEvent f .end_ false v.target v.tag s.timeBase) s
  | some ph => makeFrame l (frameEvent f ph false v.target v.tag (stamp f.start)) s

/-- A context opens for a frame whose profile continues presses, unless the action is DROP (R69 (5)). -/
def openPress (l : Lane) (f : GoodFrame) (v : Verdict) (delivering endOwed : Bool) (s : State) : State :=
  let p := s.profile f.profile
  let opened : Press :=
    { profile := f.profile, bitCount := f.bitCount, payload := f.payload, firstTime := stamp f.start,
      lastTime := stamp f.start, heldDuration := 0, repeatCount := 0, action := v.action, target := v.target,
      tag := v.tag, delivering := delivering, endOwed := endOwed, windowDue := f.start + p.repeatWindow * 1000 }
  if p.continuesPresses && v.action != .drop then s.modLane l fun x => { x with press := some opened }
  else s

/-- A frame that does not collapse begins a new press: close, lookup, judge, first events, open (R69, R79, R80). -/
def newPress (l : Lane) (f : GoodFrame) (s : State) : State :=
  let s := closePress l s
  let (v, s) := lookup l f s
  let first := firstEvent v.action (s.profile f.profile).continuesPresses
  let x := s.lane l
  if x.settings.guarded && !x.gateOpen then
    if v.action = .wake then
      let s := s.modLane l fun x => { x with gateOpen := true }
      let s := makeFrame l (frameEvent f .single true v.target v.tag (stamp f.start)) s
      openPress l f v true false s
    else openPress l f v false first.2 s
  else openPress l f v true first.2 (firstEvents l f v first.1 s)

/-- A frame collapses into the open press (R68). -/
def collapses (s : State) (f : GoodFrame) (p : Press) : Bool :=
  p.profile == f.profile && (s.profile f.profile).collapseIdentical && p.bitCount == f.bitCount &&
    p.payload == f.payload

/-- The press tracker takes a good frame (R68, R69). -/
def takeFrame (l : Lane) (f : GoodFrame) (s : State) : State :=
  match (s.lane l).press with
  | none => newPress l f s
  | some p => if collapses s f p then countRepeat l p f.start s else newPress l f s

/-- A press of the profile is open on the lane (R67). -/
def pressOpen (x : LaneState) (profile : SlotId) : Bool :=
  match x.press with
  | none => false
  | some p => p.profile == profile

/-- The press tracker takes a completed repeat code: counted to the open press of its profile, or an orphan (R52 (2),
R70). -/
def takeRepeatCode (l : Lane) (profile : SlotId) (start : Moment) (s : State) : State :=
  match (s.lane l).press with
  | none => bump l .orphans s
  | some p =>
      if p.profile = profile then bump l .repeats (countRepeat l p start s) else bump l .orphans s

/-- The gate under a SET_LANE with the new guard mode and window, and its timer (R81). -/
def gateAfter (guarded : Bool) (command : GateCommand) (window : Nat) (now : Moment) (gateOpen : Bool)
    (due : Option Moment) : Bool × Option Moment :=
  if guarded then
    match command with
    | .keep => (gateOpen, due)
    | .open_ => (true, some (now + window * 1000))
    | .close => (false, none)
  else (false, none)

end Sys2Proof.Machine
end

