-- ==== Sys2Proof/Machine/Transmit.lean ====
section
/-! DEFINITION. What the transmit side does that the receive side meets: the blind condition (02, 2.6), completions and
entry reads (05, 5.2, 5.7), the start of a transmission (05, 5.4 and 5.6; 06), the decoder's entry into HUNT, and the
reply test (06, R114). -/

namespace Sys2Proof.Machine

/-! ## The blind condition -/

/-- The decoder is collecting a frame, a repeat code or a capture (R33). -/
def Decoder.collecting : Decoder → Bool
  | .leader _ => true
  | .spaceCheck _ _ _ => true
  | .symbols _ _ _ _ => true
  | .repeatTail _ _ _ => true
  | .capture _ => true
  | .off => false
  | .hunt _ => false
  | .drain _ => false
  | .blind => false

/-- The buffer of a capture in progress. -/
def Decoder.buffer : Decoder → Option Word
  | .capture w => some w.buffer
  | _ => none

/-- The decoder's work is abandoned: a capture's buffer returns to the list (R56, R63). -/
def abandonWork (l : Lane) (s : State) : State :=
  match (s.lane l).decoder.buffer with
  | some b => returnBuffer b s
  | none => s

/-- The blind condition is raised, or stays raised with its echo guard cancelled (R32, R33). With `count`, work
overrun counts a collision; a forced send counts its own (R35). -/
def raiseBlind (l : Lane) (count : Bool) (s : State) : State :=
  let x := s.lane l
  if x.blind then s.modLane l fun x => { x with echoDue := none }
  else
    let s := if count && x.decoder.collecting then bump l .collisions s else s
    (abandonWork l s).modLane l fun x => { x with decoder := .blind, blind := true, echoDue := none }

/-- The line-busy sense of a SHARED lane (R34). -/
def Decoder.busy : Decoder → Bool
  | .hunt _ => false
  | .off | .leader _ | .spaceCheck _ _ _ | .symbols _ _ _ _ | .repeatTail _ _ _ | .drain _ | .capture _ | .blind => true

/-- The latest entry into HUNT of a decoder that is there. -/
def Decoder.huntSince : Decoder → Option Moment
  | .hunt since => some since
  | .off | .leader _ | .spaceCheck _ _ _ | .symbols _ _ _ _ | .repeatTail _ _ _ | .drain _ | .capture _ | .blind => none

/-- The entry into HUNT that an unforced first transmission meets on a SHARED lane (R34, R96). -/
def LaneState.huntMet (x : LaneState) (r : ActiveRequest) (forced : Bool) : Option Moment :=
  if x.settings.mode = .shared ∧ r.started = 0 ∧ forced = false then x.decoder.huntSince else none

/-- A mark that departs from HUNT together with the start of a first transmission that has found the sense false: the
blind condition finds the decoder in LEADER, abandons the mark and counts one collision (R33, R34). -/
def markOverrun (l : Lane) (s : State) : State :=
  bump l .collisions (s.modLane l fun x => { x with tx := x.tx.map fun t => { t with metHunt := none } })

/-- A new mark with its first edge at `edge` is confirmed while the decoder is BLIND. It is disregarded, unless it is
confirmed at the very moment of a first transmission's start and would have begun a burst with a first edge before that
start (R33, R34; log entry 30). A first edge at the start's own moment lies inside the blinding (R26): it can be the
transmission's own, and the start blinded a decoder in HUNT, so nothing is counted (R35 (1)). -/
def blindMark (l : Lane) (edge : Moment) (s : State) : State :=
  match (s.lane l).tx with
  | none => s
  | some t =>
      match t.metHunt with
      | none => s
      | some since => if t.start = s.clock ∧ since < edge ∧ edge < t.start then markOverrun l s else s

/-! ## Completions and entry reads -/

/-- The sequencer holds a completion and enters POSTING; whatever it was waiting for is over (R98, R99). -/
def complete (l : Lane) (c : Completion) (s : State) : State :=
  s.modSeq l fun q =>
    { q with state := .posting, taken := none, completion := some c, spacingDue := none, deferDue := none,
             limitDue := none, replyDue := none }

/-- A completion with the fields of R98, made now. -/
def completionOf (l : Lane) (status : Code) (tag : Half) (profile : Byte) (count : Half) (detail : Byte) (s : State) :
    Completion :=
  { target := (s.lane l).queue.completionQueue, status := status, tag := tag, profile := profile, count := count,
    detail := detail, bitCount := 0, payload := 0, timestamp := s.timeBase }

/-- An entry that did not become active is answered (R88, R89, R100). -/
def answer (l : Lane) (e : RequestEntry) (status : Code) (profile : Byte) (detail : Byte) (s : State) : State :=
  complete l (completionOf l status e.tag profile 0 detail s) s

/-- The active request completes, with count the transmissions or attempts started (R98, R110, R117). -/
def finish (l : Lane) (r : ActiveRequest) (status : Code) (detail : Byte) (s : State) : State :=
  complete l (completionOf l status r.entry.tag r.entry.profile r.started detail s) s

/-- The end cause of the active request's record is set, or discarded (R103 (5), R105, R107, R109 (4)). -/
def setEndCause (l : Lane) (r : ActiveRequest) (cause : Option Code) (s : State) : State :=
  s.modSeq l fun q => { q with active := some { r with endCause := cause } }

/-- A hold with nothing on the line ends at once with this end cause, which stays in its record until the completion is
written (R103, R105, R107). -/
def endHold (l : Lane) (r : ActiveRequest) (cause : Code) (s : State) : State :=
  finish l r cause 0 (setEndCause l r (some cause) s)

/-- The read of the entry at the head: 64 bytes at base + 64 × head (R85). -/
def entryRead (q : RequestQueue) : Transaction :=
  { purpose := .requestEntry, address := q.base + 64 * BitVec.ofNat 32 q.head, length := 64, data := [] }

/-- The sequencer enters FETCH and asks for the entry at the head. While a discarded pair-list read holds its place in
the bus port it waits to ask (R85, R100, R173; log entry 13). -/
def beginFetch (l : Lane) (s : State) : State :=
  askBus (.sequencer l) (entryRead (s.lane l).queue) (s.modSeq l fun q => { q with state := .fetch })

/-- The conditions of R85 for beginning a read. -/
def LaneState.mayFetch (x : LaneState) : Bool :=
  x.seq.state == .idle && x.queue.state == .running && x.queue.head != x.queue.tail && x.settings.mode != .disabled

/-- The check the sequencer makes at the happenings that can make the conditions true (R85). -/
def fetchCheck (l : Lane) (s : State) : State := if (s.lane l).mayFetch then beginFetch l s else s

/-! ## Transmissions -/

/-- The profile whose carrier and spacing a request uses; none for an unmodulated RAW (R12, R28, R95). -/
def State.requestProfile (s : State) (e : RequestEntry) : Profile :=
  if e.profile.toNat = 255 then blankProfile else s.profile (toSlot e.profile)

/-- The line form of a request's next transmission (R91, R92, R95, R104, R112). -/
def State.nextForm (s : State) (r : ActiveRequest) : List Interval :=
  let p := s.requestProfile r.entry
  let frame := frameForm p r.entry.payload r.entry.bitCount.toNat
  match r.kind with
  | .raw => rawForm r.pairs
  | .exchange => frame
  | .send => if r.started = 0 then frame else if wantsCode r.entry then repeatForm p else frame
  | .hold => if r.started = 0 then frame else if p.hasRepeat then repeatForm p else frame

/-- The least silence after a transmission of a request (R93, R95). -/
def State.gapAfter (s : State) (r : ActiveRequest) : Nat :=
  match r.kind with
  | .raw => max (lastSpace r.pairs) (s.requestProfile r.entry).minGap
  | .send | .hold | .exchange => (s.requestProfile r.entry).minGap

/-- The hold-limit timer started by a hold's first transmission (R105). -/
def ActiveRequest.limitFrom (r : ActiveRequest) (now : Moment) (timer : Option Moment) : Option Moment :=
  match r.kind, r.firstStart with
  | .hold, none => some (now + r.entry.holdLimit.toNat * 1000)
  | _, _ => timer

/-- The active request with one more transmission started now (R98, R103, R111). -/
def ActiveRequest.begun (r : ActiveRequest) (now : Moment) : ActiveRequest :=
  { r with started := satInc r.started, lastStart := now,
           firstStart := match r.firstStart with
             | none => some now
             | some t => some t }

/-- The active request's next transmission starts: the blind condition is raised on a SHARED lane, the line form goes to
the conditioner with the carrier of the request's profile, and the sequencer enters SENDING (R28, R32, R91). A forced
send counts one collision, whatever the decoder's state (R35, R97). A start against a decoder in HUNT counts none here; a
mark begun before it that leaves HUNT at the same moment counts it when it is confirmed (R34, `blindMark`). -/
def startTransmission (l : Lane) (forced : Bool) (s : State) : State :=
  match (s.lane l).seq.active with
  | none => s
  | some r =>
      let p := s.requestProfile r.entry
      let t : Transmission :=
        { start := s.clock, intervals := s.nextForm r, carrierHigh := p.carrierHigh, carrierLow := p.carrierLow,
          metHunt := (s.lane l).huntMet r forced }
      let s := if forced then bump l .collisions s else s
      let s := if (s.lane l).settings.mode = .shared then raiseBlind l (!forced) s else s
      s.modLane l fun x =>
        { x with tx := some t,
                 seq := { x.seq with state := .sending, active := some (r.begun s.clock), spacingDue := none,
                                     deferDue := none, limitDue := r.limitFrom s.clock x.seq.limitDue } }

/-- The decoder's entry into HUNT is told to the sequencer, which in DEFER starts the first transmission (R34, R96). -/
def huntEntered (l : Lane) (s : State) : State :=
  match (s.lane l).seq.state with
  | .defer => startTransmission l false s
  | .idle | .fetch | .listFetch | .gap | .sending | .holding | .ending | .listen | .posting => s

/-- The decoder enters HUNT (R40). -/
def enterHunt (l : Lane) (s : State) : State :=
  huntEntered l (s.modLane l fun x => { x with decoder := .hunt s.clock })

/-- The reply test of R114: profile, and the payload bits the mask selects. -/
def passesReply (e : RequestEntry) (f : GoodFrame) : Bool :=
  toSlot e.replyProfile == f.profile && (f.payload.setWidth 64 &&& e.replyMask) == e.replyValue

/-- A good frame reaches the sequencer: in LISTEN a frame that passes the test completes the exchange OK and goes no
further; any other frame is handed on to the press tracker (R51, R114). -/
def takeGoodFrame (l : Lane) (f : GoodFrame) (s : State) : State :=
  let q := (s.lane l).seq
  match q.state, q.active with
  | .listen, some r =>
      if passesReply r.entry f then
        complete l
          { completionOf l .ok r.entry.tag r.entry.profile r.started 0 s with
            bitCount := f.bitCount, payload := f.payload, timestamp := stamp f.start } s
      else takeFrame l f s
  | _, _ => takeFrame l f s

end Sys2Proof.Machine
end

