-- ==== Sys2Proof/Machine/Decoder.lean ====
section
/-! DEFINITION. The decoder of a lane (03_frame_reception.md): thresholds, classification of bursts, symbol decoding,
the ends of frames and repeat codes, draining, stuck marks and raw capture. -/

namespace Sys2Proof.Machine

/-! ## Results that leave the decoder -/

/-- The state of the decoder changes within a burst. -/
def setDecoder (l : Lane) (d : Decoder) (s : State) : State := s.modLane l fun x => { x with decoder := d }

/-- The write of the capture writer's capture: four bytes per pair from the buffer's first byte (R58). -/
def captureWrite (c : FinishedCapture) : Transaction :=
  { purpose := .captureBuffer false, address := c.buffer, length := 4 * c.pairs.length, data := captureBytes c.pairs }

/-- A capture ends and passes to the lane's capture writer, which asks for its write (R57, R58). -/
def finishCapture (l : Lane) (buffer : Word) (start : Moment) (status : Code) (pairs : List CapturePair) (s : State) :
    State :=
  let c : FinishedCapture := { buffer := buffer, start := start, status := status, pairs := pairs }
  askBus (.captureWriter l) (captureWrite c) (s.modLane l fun x => { x with capture := some c })

/-- A frame in error: counted, and reported when report_errors is on (R50). -/
def frameError (l : Lane) (status : Code) (slot : SlotId) (start : Moment) (part : PartialFrame) (s : State) : State :=
  let s := bump l .framesBad s
  let x := (s.lane l).settings
  if x.reportErrors then
    enterOutbox l
      { kind := .frame, status := status, target := x.defaultEq, profile := slot, bitCount := part.count,
        payload := part.payload, phase := .single, wake := false, repeatCount := 0, tag := 0, aux := 0,
        timestamp := stamp start, lost := 0 } s
  else s

/-- A frame in error found inside the frame leaves the decoder in DRAIN of kind PROFILE (R50). -/
def brokenInside (l : Lane) (status : Code) (slot : SlotId) (scale : Nat) (start : Moment) (part : PartialFrame)
    (s : State) : State :=
  setDecoder l (.drain (.profile (scaled (s.profile slot).endSilence scale))) (frameError l status slot start part s)

/-- A frame in error found at end silence leaves the decoder in HUNT (R50). -/
def brokenAtEnd (l : Lane) (status : Code) (slot : SlotId) (start : Moment) (part : PartialFrame) (s : State) : State :=
  enterHunt l (frameError l status slot start part s)

/-- A frame that has reached its end is SHORT or good (R49); a good one goes to the reply test and on (R51). -/
def frameEnds (l : Lane) (slot : SlotId) (start : Moment) (part : PartialFrame) (s : State) : State :=
  if part.count < (s.profile slot).bitsMin then brokenAtEnd l .short slot start part s
  else
    enterHunt l
      (takeGoodFrame l { profile := slot, bitCount := part.count, payload := part.payload, start := start }
        (bump l .framesGood s))

/-- An orphan found at a repeat leader or inside a repeat code (R42, R52). -/
def orphan (l : Lane) (slot : SlotId) (scale : Nat) (s : State) : State :=
  setDecoder l (.drain (.profile (scaled (s.profile slot).endSilence scale))) (bump l .orphans s)

/-! ## Classification -/

/-- The candidate a profile makes for a first mark of length `m`, when it passes the leader or the repeat test (R41). -/
def candidateOf (p : Profile) (slot : SlotId) (m : Nat) : Option Candidate :=
  let leader := markScale p m p.leaderMark
  let repeated := if p.hasRepeat then markScale p m p.repeatMark else none
  if leader.isNone && repeated.isNone then none
  else some { slot := slot, leader := leader, repeated := repeated }

/-- The candidate list of a first mark, in armed order (R41). -/
def State.candidates (s : State) (l : Lane) (m : Nat) : List Candidate :=
  (s.lane l).settings.armed.filterMap fun i => candidateOf (s.profile i) i m

/-- An empty partial frame (R40). -/
def PartialFrame.empty : PartialFrame :=
  { count := 0, payload := 0, bitMark := false, trailerMark := false, half := none }

/-- An unclassified burst takes a capture buffer when the capture setting is on; without one it counts CAPTURE_DROPS, or
NOISE with the setting off (R41, R43, R60). -/
def claimCapture (l : Lane) (s : State) : Option Word × State :=
  if (s.lane l).settings.capture then
    match takeBuffer l s with
    | some (b, s') => (some b, s')
    | none => (none, bump l .captureDrops s)
  else (none, bump l .noise s)

/-- The end of a burst's first mark (R41). -/
def firstMarkEnds (l : Lane) (start : Moment) (m : Nat) (s : State) : State :=
  match s.candidates l m with
  | c :: rest => setDecoder l (.spaceCheck start m (c :: rest)) s
  | [] =>
      match claimCapture l s with
      | (some b, s) => setDecoder l (.capture { buffer := b, start := start, pairs := [], openMark := some m }) s
      | (none, s) => setDecoder l (.drain .settle) s

/-- An unclassified burst judged in SPACE_CHECK, its space having length `d`; `newMark` is the first edge of the mark
that ended the space, if one did (R43). A sequencer in DEFER takes the entry into HUNT and starts; it then meets the decoder
in LEADER with that mark, which is abandoned and counted (R34, R96; log entry 28). -/
def unclassifiedSpace (l : Lane) (start : Moment) (m d : Nat) (newMark : Option Moment) (s : State) : State :=
  let settle := (s.lane l).settings.settleSilence
  if d < settle then
    match claimCapture l s with
    | (some b, s) =>
        let work : CaptureWork := match newMark with
          | some _ => { buffer := b, start := start, pairs := [⟨m, d⟩], openMark := none }
          | none => { buffer := b, start := start, pairs := [], openMark := some m }
        setDecoder l (.capture work) s
    | (none, s) => setDecoder l (.drain .settle) s
  else
    let s := match claimCapture l s with
      | (some b, s) => finishCapture l b start .ok [⟨m, settle⟩] s
      | (none, s) => s
    let s := enterHunt l s
    match newMark, (s.lane l).decoder with
    | some edge, .hunt _ => setDecoder l (.leader edge) s
    | some _, .blind => markOverrun l s
    | _, _ => s

/-- What the trial of a candidate list against a space finds (R42). -/
inductive SpaceVerdict where
  | frame (slot : SlotId) (scale : Nat) (half : Option Bool)
  | repeatCode (slot : SlotId) (scale : Nat)
  | orphan (slot : SlotId) (scale : Nat)
  | unclassified
  deriving DecidableEq, Repr

/-- The leader-space test of R42 (1): the scale, and the half-bit that a leader space of leader_space + h leaves. -/
def leaderSpaceMatch (p : Profile) (c : Candidate) (d : Nat) : Option (Nat × Option Bool) :=
  match c.leader with
  | none => none
  | some scale =>
      if inScaled p scale d p.leaderSpace then some (scale, none)
      else if p.encoding = .biphase ∧ inScaled p scale d (p.leaderSpace + p.mark0) then some (scale, some false)
      else none

/-- The repeat-space test of R42 (2). -/
def repeatSpaceMatch (p : Profile) (c : Candidate) (d : Nat) : Option Nat :=
  match c.repeated with
  | none => none
  | some scale => if inScaled p scale d p.repeatSpace then some scale else none

/-- The trial of the candidates in armed order, leader space before repeat space, remembering the first orphan match
(R42). -/
def trySpace (s : State) (l : Lane) (d : Nat) : List Candidate → Option (SlotId × Nat) → SpaceVerdict
  | [], none => .unclassified
  | [], some (slot, scale) => .orphan slot scale
  | c :: rest, remembered =>
      let p := s.profile c.slot
      match leaderSpaceMatch p c d with
      | some (scale, half) => .frame c.slot scale half
      | none =>
          match repeatSpaceMatch p c d with
          | some scale =>
              if pressOpen (s.lane l) c.slot then .repeatCode c.slot scale
              else trySpace s l d rest (remembered.or (some (c.slot, scale)))
          | none => trySpace s l d rest remembered

/-- The space of SPACE_CHECK ends with length `d` at a mark whose first edge is `edge` (R42). -/
def firstSpaceEnds (l : Lane) (start : Moment) (m : Nat) (cands : List Candidate) (d : Nat) (edge : Moment)
    (s : State) : State :=
  match trySpace s l d cands none with
  | .frame slot scale half => setDecoder l (.symbols start slot scale { PartialFrame.empty with half := half }) s
  | .repeatCode slot scale => setDecoder l (.repeatTail start slot scale) s
  | .orphan slot scale => orphan l slot scale s
  | .unclassified => unclassifiedSpace l start m d (some edge) s

/-! ## Symbols -/

/-- What an interval does to a partial frame: it goes on, or the frame ends in error with the bits it had (R44). -/
inductive SymbolResult where
  | ok (part : PartialFrame)
  | broken (part : PartialFrame)
  | long (part : PartialFrame)
  deriving DecidableEq, Repr

/-- A bit is decoded: stored at the next position, or LONG when bits_max bits are held already (R44 (1), (4)). -/
def addBit (p : Profile) (part : PartialFrame) (value : Bool) : SymbolResult :=
  if p.bitsMax ≤ part.count then .long part
  else
    .ok { part with
      count := part.count + 1,
      payload := if value then part.payload ||| (BitVec.twoPow 128 part.count) else part.payload }

/-- A PDIST mark ends (R45 (1)). -/
def pdistMark (p : Profile) (scale d : Nat) (part : PartialFrame) : SymbolResult :=
  let isBit := inScaled p scale d p.mark0
  let isTrailer := inScaled p scale d p.trailerMark
  if isBit || isTrailer then .ok { part with bitMark := isBit, trailerMark := isTrailer } else .broken part

/-- A PDIST space ends (R45 (2)). -/
def pdistSpace (p : Profile) (scale d : Nat) (part : PartialFrame) : SymbolResult :=
  if part.bitMark && inScaled p scale d p.space0 then addBit p part false
  else if part.bitMark && inScaled p scale d p.space1 then addBit p part true
  else .broken part

/-- A PWIDTH mark ends (R46 (1)). -/
def pwidthMark (p : Profile) (scale d : Nat) (part : PartialFrame) : SymbolResult :=
  if inScaled p scale d p.mark0 then addBit p part false
  else if inScaled p scale d p.mark1 then addBit p part true
  else if p.trailerMark != 0 && inScaled p scale d p.trailerMark then .ok { part with trailerMark := true }
  else .broken part

/-- A PWIDTH space ends: after a bit mark it must be space0, after the trailer it is BROKEN (R46 (2), (4)). -/
def pwidthSpace (p : Profile) (scale d : Nat) (part : PartialFrame) : SymbolResult :=
  if !part.trailerMark && inScaled p scale d p.space0 then .ok part else .broken part

/-- The value of a bit whose first half is at `first` (R47). -/
def pairValue (polarity : Polarity) (first : Bool) : Bool :=
  match polarity with
  | .markFirstIsOne => first
  | .markFirstIsZero => !first

/-- A half-bit arrives (R47). -/
def addHalf (p : Profile) (part : PartialFrame) (level : Bool) : SymbolResult :=
  match part.half with
  | none => .ok { part with half := some level }
  | some first =>
      if first = level then .broken part
      else addBit p { part with half := none } (pairValue p.polarity first)

/-- A BIPHASE interval of one or two half-bits ends (R47). -/
def biphaseInterval (p : Profile) (scale d : Nat) (level : Bool) (part : PartialFrame) : SymbolResult :=
  if inScaled p scale d p.mark0 then addHalf p part level
  else if inScaled p scale d (2 * p.mark0) then
    match addHalf p part level with
    | .ok part' => addHalf p part' level
    | .broken part' => .broken part'
    | .long part' => .long part'
  else .broken part

/-- An interval of a frame's data ends (R45, R46, R47). -/
def symbol (p : Profile) (scale d : Nat) (level : Bool) (part : PartialFrame) : SymbolResult :=
  match p.encoding, level with
  | .pdist, true => pdistMark p scale d part
  | .pdist, false => pdistSpace p scale d part
  | .pwidth, true => pwidthMark p scale d part
  | .pwidth, false => pwidthSpace p scale d part
  | .biphase, level => biphaseInterval p scale d level part

/-- A space of the frame has reached end silence: the frame ends with these bits, or in error (R45 (3), R46 (3) and
(4), R48). -/
def silence (p : Profile) (part : PartialFrame) : SymbolResult :=
  match p.encoding with
  | .pdist => if part.trailerMark then .ok part else .broken part
  | .pwidth => if p.trailerMark = 0 || part.trailerMark then .ok part else .broken part
  | .biphase =>
      match part.half with
      | none => .ok part
      | some true => addHalf p part false
      | some false => .broken part

/-- An interval of a frame is taken in SYMBOLS (R44). -/
def symbolTaken (l : Lane) (start : Moment) (slot : SlotId) (scale d : Nat) (level : Bool) (part : PartialFrame)
    (s : State) : State :=
  match symbol (s.profile slot) scale d level part with
  | .ok part => setDecoder l (.symbols start slot scale part) s
  | .broken part => brokenInside l .broken slot scale start part s
  | .long part => brokenInside l .long slot scale start part s

/-! ## Repeat codes and captures -/

/-- The closing mark of a repeat code ends (R52 (1)). -/
def closingMarkEnds (l : Lane) (slot : SlotId) (scale d : Nat) (s : State) : State :=
  let p := s.profile slot
  if inScaled p scale d p.closingMark then s else orphan l slot scale s

/-- A mark ends in CAPTURE (R57 (1)). -/
def captureMark (l : Lane) (w : CaptureWork) (d : Nat) (s : State) : State :=
  setDecoder l (.capture { w with openMark := some d }) s

/-- A space ends in CAPTURE with a further mark (R57 (2), (4)). -/
def captureSpace (l : Lane) (w : CaptureWork) (d : Nat) (s : State) : State :=
  match w.openMark with
  | none => s
  | some m =>
      let pairs := w.pairs ++ [⟨m, d⟩]
      if pairs.length < Config.capturePairs then
        setDecoder l (.capture { w with pairs := pairs, openMark := none }) s
      else finishCapture l w.buffer w.start .captureFull pairs (setDecoder l (.drain .settle) s)

/-! ## Transition reports -/

/-- The decoder takes a transition report: the new level with its first edge, and the length of the interval it ends
where that is handed (R39, R40). -/
def takeTransition (l : Lane) (newMark : Bool) (edge : Moment) (ended : Option Nat) (s : State) : State :=
  match (s.lane l).decoder with
  | .off => s
  | .blind => if newMark then blindMark l edge s else s
  | .hunt since => if newMark && decide (since < edge) then setDecoder l (.leader edge) s else s
  | .leader start =>
      match newMark, ended with
      | false, some m => firstMarkEnds l start m s
      | _, _ => s
  | .spaceCheck start m cands =>
      match newMark, ended with
      | true, some d => firstSpaceEnds l start m cands d edge s
      | _, _ => s
  | .symbols start slot scale part =>
      match ended with
      | some d => symbolTaken l start slot scale d (!newMark) part s
      | none => s
  | .repeatTail _ slot scale =>
      match newMark, ended with
      | false, some d => closingMarkEnds l slot scale d s
      | true, _ => orphan l slot scale s
      | false, none => s
  | .drain .stuck => if newMark then s else enterHunt l s
  | .drain .settle => s
  | .drain (.profile _) => s
  | .capture w =>
      match newMark, ended with
      | false, some d => captureMark l w d s
      | true, some d => captureSpace l w d s
      | _, none => s

/-! ## Thresholds -/

/-- The SPACE_CHECK threshold: the greatest scaled end_silence among the candidates (R42). -/
def spaceThreshold (s : State) (cands : List Candidate) : Nat :=
  (cands.map fun c =>
    let e := (s.profile c.slot).endSilence
    max (match c.leader with
          | some k => scaled e k
          | none => 0)
      (match c.repeated with
          | some k => scaled e k
          | none => 0)).foldl max 0

/-- The threshold the decoder names for the interval now running (R39). -/
def State.namedThreshold (s : State) (l : Lane) (mark : Bool) : Option Nat :=
  let x := s.lane l
  match x.decoder, mark with
  | .off, _ => none
  | .blind, _ => none
  | .hunt _, true => some Config.stuckLimit
  | .hunt _, false => none
  | .leader _, true => some Config.stuckLimit
  | .leader _, false => none
  | .spaceCheck _ _ _, true => none
  | .spaceCheck _ _ cands, false => some (spaceThreshold s cands)
  | .symbols _ _ _ _, true => some Config.stuckLimit
  | .symbols _ slot scale _, false => some (scaled (s.profile slot).endSilence scale)
  | .repeatTail _ _ _, true => some Config.stuckLimit
  | .repeatTail _ slot scale, false => some (scaled (s.profile slot).endSilence scale)
  | .drain .stuck, _ => none
  | .drain _, true => some Config.stuckLimit
  | .drain (.profile threshold), false => some threshold
  | .drain .settle, false => some x.settings.settleSilence
  | .capture _, true => some Config.stuckLimit
  | .capture _, false => some x.settings.settleSilence

/-- A mark has reached the stuck-mark limit: the work in hand is abandoned, one LINE_STUCK notice enters the outbox, and
the decoder drains (R55). -/
def lineStuck (l : Lane) (edge : Moment) (s : State) : State :=
  let s := (abandonWork l s).modLane l fun x =>
    { x with filter := x.filter.map fun f => { f with stuckReported := true } }
  let notice : RxEvent :=
    { kind := .notice, status := .lineStuck, target := (s.lane l).settings.defaultEq, profile := 0, bitCount := 0,
      payload := 0, phase := .single, wake := false, repeatCount := 0, tag := 0, aux := 0,
      timestamp := stamp edge, lost := 0 }
  setDecoder l (.drain .stuck) (enterOutbox l notice s)

/-- The running space has reached the threshold the decoder named (R42 to R57). -/
def spaceCrossing (l : Lane) (threshold : Nat) (s : State) : State :=
  match (s.lane l).decoder with
  | .spaceCheck start m _ => unclassifiedSpace l start m threshold none s
  | .symbols start slot _ part =>
      match silence (s.profile slot) part with
      | .ok part => frameEnds l slot start part s
      | .broken part => brokenAtEnd l .broken slot start part s
      | .long part => brokenAtEnd l .long slot start part s
  | .repeatTail start slot _ => takeRepeatCode l slot start (enterHunt l s)
  | .drain _ => enterHunt l s
  | .capture w =>
      match w.openMark with
      | none => s
      | some m =>
          enterHunt l
            (finishCapture l w.buffer w.start .ok (w.pairs ++ [⟨m, (s.lane l).settings.settleSilence⟩])
              (setDecoder l (.hunt s.clock) s))
  | .off => s
  | .hunt _ => s
  | .leader _ => s
  | .blind => s

/-- The decoder takes a threshold crossing of the interval with the level and first edge given (R27, R55). -/
def takeCrossing (l : Lane) (mark : Bool) (edge : Moment) (threshold : Nat) (s : State) : State :=
  if mark then lineStuck l edge s else spaceCrossing l threshold s

/-- The threshold named for the running interval, when it was reached at or before `cutoff`; the stuck-mark limit is
reported once for one mark (R27, R55). -/
def State.crossingBy (s : State) (l : Lane) (cutoff : Moment) : Option (InputFilter × Nat) :=
  match (s.lane l).filter with
  | none => none
  | some f =>
      match s.namedThreshold l f.mark with
      | none => none
      | some threshold =>
          if f.firstEdge + threshold ≤ cutoff ∧ !(f.mark && f.stuckReported) then some (f, threshold) else none

/-- Threshold crossings reached by `cutoff` are reported, one after another: a threshold that the decoder names after
the running length has passed it is reported at once (R27, R39). A crossing leads to at most two more. -/
def reportCrossings (l : Lane) (cutoff : Moment) : Nat → State → State
  | 0, s => s
  | n + 1, s =>
      match s.crossingBy l cutoff with
      | none => s
      | some (f, threshold) => reportCrossings l cutoff n (takeCrossing l f.mark f.firstEdge threshold s)

/-- How many crossings can follow one another in one happening. -/
def crossingChain : Nat := 4

/-- The crossings due now are reported, unless a pending excursion holds them back (R27 (1), (2)). -/
def crossingsNow (l : Lane) (s : State) : State :=
  match (s.lane l).filter with
  | none => s
  | some f =>
      match f.excursion with
      | none => reportCrossings l s.clock crossingChain s
      | some _ => s

/-- A threshold that the decoder names after the running length has passed it is reported at once, also while an
excursion is pending that began at or after the threshold was reached, since the interval has then reached it (R27, R55).
DEDUCED (log entry 33): one that began before holds the report back until it is settled, since the interval may prove
shorter. -/
def crossingsAtOnce (l : Lane) (s : State) : State :=
  match (s.lane l).filter with
  | none => s
  | some f => reportCrossings l (min s.clock (f.excursion.getD s.clock)) crossingChain s

end Sys2Proof.Machine
end

