-- ==== Sys2Proof/Machine/Conditioner.lean ====
section
/-! DEFINITION. The line conditioner's input side (02, 2.1 to 2.3, 2.6): restart, glitch filter, confirmed transitions,
and the withdrawal of the blind condition. -/

namespace Sys2Proof.Machine

/-- A lane mode in which the input side runs (R22, R23). -/
def LaneMode.receives : LaneMode → Bool
  | .disabled => false
  | .txOnly => false
  | .rxOnly => true
  | .shared => true
  | .split => true

/-- The glitch filter at an input-side restart: the pin is sampled as the confirmed level, and its interval is not handed
(R23); its first edge is the moment of the restart (R39). -/
def sampledFilter (x : LaneState) (now : Moment) : InputFilter :=
  { mark := x.pinHigh == x.settings.inputHigh, firstEdge := now, handed := false, stuckReported := false,
    unblinded := none, excursion := none }

/-- The input side is restarted, or stops, as the lane's mode says (R23, R40). -/
def restartInput (l : Lane) (s : State) : State :=
  if (s.lane l).settings.mode.receives then
    enterHunt l (s.modLane l fun x => { x with filter := some (sampledFilter x s.clock) })
  else s.modLane l fun x => { x with filter := none, decoder := .off }

/-- The blind condition is withdrawn, when it stands: the interval in progress will not be handed, the decoder enters
HUNT, and a mark that has passed the stuck-mark limit is reported (R32, R33, R55). DESIGN CHOICE (log entry 31): a
sequencer in DEFER takes the entry into HUNT first, and its start then blinds the decoder again, so that such a mark is
not reported. -/
def withdrawBlind (l : Lane) (s : State) : State :=
  if (s.lane l).blind then
    crossingsAtOnce l
      (enterHunt l (s.modLane l fun x =>
        { x with blind := false, echoDue := none,
                 filter := x.filter.map fun f => { f with handed := false, unblinded := some s.clock } }))
  else s.modLane l fun x => { x with echoDue := none }

/-- An interval that begins at `edge` will be handed: its first edge lies in no period of blinding (R26, R33). -/
def handsFrom (x : LaneState) (f : InputFilter) (edge : Moment) : Bool :=
  !x.blind &&
    match f.unblinded with
    | none => true
    | some w => decide (w < edge)

/-- The length of the interval a transition at `edge` ends, where it is handed (R26). -/
def handedLength (x : LaneState) (f : InputFilter) (edge : Moment) : Option Nat :=
  if f.handed && !x.blind then some (edge - f.firstEdge) else none

/-- The filter after a confirmed transition (R25). -/
def InputFilter.confirmed (f : InputFilter) (handed : Bool) (edge : Moment) : InputFilter :=
  { mark := !f.mark, firstEdge := edge, handed := handed, stuckReported := false, unblinded := f.unblinded,
    excursion := none }

/-- A confirmed transition whose excursion began at `edge`, once the crossings before it have been reported (R25, R26,
R39). -/
def takeConfirmed (l : Lane) (edge : Moment) (s : State) : State :=
  let x := s.lane l
  match x.filter with
  | none => s
  | some f =>
      crossingsNow l
        (takeTransition l (!f.mark) edge (handedLength x f edge)
          (s.modLane l fun x => { x with filter := some (f.confirmed (handsFrom x f edge) edge) }))

/-- The pending excursion is confirmed. A crossing reached at or before its edge is reported first (R27 (2)). -/
def confirmExcursion (l : Lane) (edge : Moment) (s : State) : State :=
  takeConfirmed l edge (reportCrossings l edge crossingChain s)

/-- The pending excursion, when it has held for glitch_width (R25). -/
def LaneState.heldExcursion (x : LaneState) (now : Moment) : Option Moment :=
  match x.filter with
  | none => none
  | some f =>
      match f.excursion with
      | none => none
      | some edge => if edge + x.settings.glitchWidth ≤ now then some edge else none

/-- An excursion that has held for glitch_width is confirmed (R25, R26). -/
def confirmHeld (l : Lane) (s : State) : State :=
  match (s.lane l).heldExcursion s.clock with
  | none => s
  | some edge => confirmExcursion l edge s

/-- The pending excursion of the filter is set or dropped (R25). -/
def setExcursion (l : Lane) (e : Option Moment) (s : State) : State :=
  s.modLane l fun x => { x with filter := x.filter.map fun f => { f with excursion := e } }

/-- An excursion is pending on the lane. -/
def LaneState.excursionPending (x : LaneState) : Bool :=
  match x.filter with
  | none => false
  | some f => f.excursion.isSome

/-- The input pin changes to a level (R25). An excursion that has held for glitch_width is confirmed before the change;
a pending one is dropped, which releases a crossing held back (R27); otherwise an excursion begins, and with
glitch_width 0 it is confirmed at the edge. -/
def takePinEdge (l : Lane) (high : Bool) (s : State) : State :=
  if (s.lane l).pinHigh = high then s
  else
    let s := confirmHeld l (s.modLane l fun x => { x with pinHigh := high })
    if (s.lane l).excursionPending then crossingsNow l (setExcursion l none s)
    else confirmHeld l (setExcursion l (some s.clock) s)

end Sys2Proof.Machine
end

