-- ==== Sys2Proof/Machine/Sequencer.lean ====
section
/-! DEFINITION. The transmit sequencer (05, 06): taking and activating requests, spacing, series, holds, exchanges, the
end and the cut of a transmission, RELEASE, and the request queue's claim. -/

namespace Sys2Proof.Machine

/-! ## Spacing -/

/-- The sequencer waits in GAP until a moment (R93). -/
def enterGap (l : Lane) (due : Moment) (s : State) : State :=
  s.modSeq l fun q => { q with state := .gap, spacingDue := some due }

/-- The spacing wait before a request's first transmission: the line-free time, when one is set (R93 (2)). -/
def firstGap (l : Lane) (s : State) : State := enterGap l ((s.lane l).seq.lineFree.getD s.clock) s

/-- The earliest next start within a series or between attempts (R93 (1), R95, R112). -/
def State.nextStart (s : State) (r : ActiveRequest) (ended : Moment) : Moment :=
  let p := s.requestProfile r.entry
  match r.kind with
  | .raw => ended + s.gapAfter r
  | .send | .hold | .exchange =>
      max (ended + p.minGap) (if p.framePeriod = 0 then ended else r.lastStart + p.framePeriod)

/-- The echo guard is counted from now; with echo_guard 0 the blind condition is withdrawn at once (R32). -/
def startEchoGuard (l : Lane) (s : State) : State :=
  let g := (s.lane l).settings.echoGuard
  if g = 0 then withdrawBlind l s else s.modLane l fun x => { x with echoDue := some (s.clock + g) }

/-- The transmission leaves the line, at its end or at a cut: the output goes idle, the line-free time is set, and on a
SHARED lane the echo guard is counted (R29, R32, R93). -/
def leaveLine (l : Lane) (r : ActiveRequest) (s : State) : State :=
  let gap := s.gapAfter r
  let s := s.modLane l fun x =>
    { x with tx := none, seq := { x.seq with lineFree := some (s.clock + gap) } }
  if (s.lane l).settings.mode = .shared then startEchoGuard l s else s

/-! ## The end of a transmission -/

/-- How many transmissions a SEND or RAW series has (R92, R95). -/
def seriesLength (e : RequestEntry) : Nat := 1 + e.repeats.toNat

/-- What follows a transmission that has ended, by the request's kind (R92, R95, R104, R109, R113). -/
def afterTransmission (l : Lane) (r : ActiveRequest) (s : State) : State :=
  match r.kind with
  | .send | .raw =>
      if r.started.toNat < seriesLength r.entry then enterGap l (s.nextStart r s.clock) s
      else finish l r .ok 0 s
  | .hold =>
      match r.endCause with
      | some cause => finish l r cause 0 s
      | none =>
          let p := s.requestProfile r.entry
          s.modSeq l fun q =>
            { q with state := .holding,
                     spacingDue := some (max (r.lastStart + r.holdPeriod) (s.clock + p.minGap)) }
  | .exchange =>
      s.modSeq l fun q =>
        { q with state := .listen, replyDue := some (s.clock + r.entry.replyWindow.toNat * 1000) }

/-- The conditioner reports the end of the last mark (R91, R92). -/
def transmissionEnds (l : Lane) (s : State) : State :=
  let x := s.lane l
  match x.tx, x.seq.active with
  | some t, some r => if t.endsAt ≤ s.clock then afterTransmission l r (leaveLine l r s) else s
  | _, _ => s

/-! ## Timers of the sequencer -/

/-- The spacing wait before a first transmission is over: on a SHARED lane a busy line defers it (R96). -/
def deferOrStart (l : Lane) (s : State) : State :=
  let x := s.lane l
  if x.settings.mode = .shared ∧ x.decoder.busy then
    s.modSeq l fun q =>
      { q with state := .defer, spacingDue := none,
               deferDue := if x.settings.deferLimit = 0 then none
                 else some (s.clock + x.settings.deferLimit * 1000) }
  else startTransmission l false s

/-- The spacing timer runs out (R93, R104, R112). -/
def spacingExpires (l : Lane) (s : State) : State :=
  let q := (s.lane l).seq
  if expired q.spacingDue s.clock then
    match q.state, q.active with
    | .gap, some r => if r.started = 0 then deferOrStart l s else startTransmission l false s
    | .holding, some _ => startTransmission l false s
    | _, _ => s
  else s

/-- The defer timer runs out: a POLITE request completes LINE_BUSY, any other starts at once (R97). -/
def deferExpires (l : Lane) (s : State) : State :=
  let q := (s.lane l).seq
  if expired q.deferDue s.clock then
    match q.state, q.active with
    | .defer, some r => if isPolite r.entry then finish l r .lineBusy 0 s else startTransmission l true s
    | _, _ => s
  else s

/-- The hold begins to end while a transmission is on the line: ENDING with its cause, the limit timer over (R105,
R107). -/
def enterEnding (l : Lane) (r : ActiveRequest) (cause : Code) (s : State) : State :=
  s.modSeq l fun q =>
    { q with state := .ending, active := some { r with endCause := some cause }, limitDue := none }

/-- The hold-limit timer runs out (R105). -/
def holdLimitExpires (l : Lane) (s : State) : State :=
  let q := (s.lane l).seq
  if expired q.limitDue s.clock then
    match q.state, q.active with
    | .sending, some r => enterEnding l r .holdLimit s
    | .holding, some r => endHold l r .holdLimit s
    | _, _ => s
  else s

/-- The reply window runs out in LISTEN (R112, R115). The end of the attempt's frame is the moment LISTEN began. -/
def replyExpires (l : Lane) (s : State) : State :=
  let q := (s.lane l).seq
  if expired q.replyDue s.clock then
    match q.state, q.active with
    | .listen, some r =>
        if r.started.toNat < r.entry.attempts.toNat then
          let ended := q.replyDue.getD 0 - r.entry.replyWindow.toNat * 1000
          enterGap l (s.nextStart r ended) (s.modSeq l fun q => { q with replyDue := none })
        else finish l r .noReply 0 s
    | _, _ => s
  else s

/-! ## Taking and activating a request -/

/-- The head advances by one, modulo size, at the taking (R85). -/
def advanceHead (l : Lane) (s : State) : State :=
  s.modLane l fun x => { x with queue := { x.queue with head := (x.queue.head + 1) % x.queue.size } }

/-- One entry of a flush has been taken and is answered ABORTED (R100, R152). -/
def countFlushed (l : Lane) (s : State) : State :=
  s.modSeq l fun q => { q with abort := q.abort.map fun a => { remaining := a.remaining - 1, aborted := a.aborted + 1 } }

/-- An entry is taken: its head advances, and it is answered ABORTED during a flush, refused by validation, or kept for
its activation (R85, R88, R100). -/
def takeEntry (l : Lane) (e : RequestEntry) (s : State) : State :=
  let s := advanceHead l s
  match (s.lane l).seq.abort with
  | some _ => answer l e .aborted e.profile 0 (countFlushed l s)
  | none =>
      match validate (s.lane l).settings.mode e with
      | .error (status, detail, profile) => answer l e status profile detail s
      | .ok _ => s.modSeq l fun q => { q with taken := some e }

/-- A request entry read ends with data (R85). -/
def entryReadEnds (l : Lane) (e : RequestEntry) (s : State) : State :=
  endTransaction (.sequencer l) (· == .requestEntry) (fun _ s => takeEntry l e s) s

/-- A request queue after a failed entry read (R86). -/
def RequestQueue.afterReadError (q : RequestQueue) : RequestQueue :=
  match q.state with
  | .absent => q
  | .running | .faulted => { q with state := .faulted }

/-- A request entry read ends with a bus error: the queue is FAULTED, a QUEUE_FAULT completion is made, and a flush ends
(R86, R100). -/
def entryReadFails (l : Lane) (s : State) : State :=
  endTransaction (.sequencer l) (· == .requestEntry)
    (fun _ s =>
      let s := s.modLane l fun x =>
        { x with queue := x.queue.afterReadError,
                 seq := { x.seq with abort := x.seq.abort.map fun a => { a with remaining := 0 } } }
      complete l (completionOf l .queueFault 0 0 0 0 s) s) s

/-- The hold period T (R103 (3)). -/
def holdPeriod (p : Profile) (e : RequestEntry) : Nat :=
  if p.framePeriod = 0 then duration (frameForm p e.payload e.bitCount.toNat) + p.minGap else p.framePeriod

/-- The checks made against the profile fields once the request is active: status and detail of a failure (R89 (2)). -/
def activationFault (s : State) (kind : RequestKind) (e : RequestEntry) : Option (Code × Byte) :=
  let p := s.requestProfile e
  match kind with
  | .raw => none
  | .send | .hold | .exchange =>
      if !within p.bitsMin p.bitsMax e.bitCount.toNat then some (.fieldRange, 5)
      else if kind == .send && wantsCode e && !p.hasRepeat then some (.fieldRange, 7)
      else if kind == .exchange && (s.profile (toSlot e.replyProfile)).leaderMark == 0 then some (.profileInvalid, 0)
      else none

/-- The request just activated (R89 (2), R103, R111). -/
def activeOf (s : State) (kind : RequestKind) (e : RequestEntry) : ActiveRequest :=
  { entry := e, kind := kind, pairs := [], started := 0, firstStart := none, lastStart := 0,
    holdPeriod := holdPeriod (s.requestProfile e) e, endCause := none }

/-- The read of a RAW request's pair list: 4 × pair_count bytes at list_address (R94). -/
def listRead (e : RequestEntry) : Transaction :=
  { purpose := .pairList false, address := e.listAddress, length := 4 * e.pairCount.toNat, data := [] }

/-- The store answers the activation claim of the entry taken (R3, R89, R90). -/
def activate (l : Lane) (e : RequestEntry) (kind : RequestKind) (s : State) : State :=
  if (namedSlots kind e).all fun i => (s.slot i).isValid then
    let r := activeOf s kind e
    let s' := s.modSeq l fun q => { q with taken := none, active := some r }
    match activationFault s kind e with
    | some (status, detail) => finish l r status detail s'
    | none =>
        if kind = .raw then
          askBus (.sequencer l) (listRead e) (s'.modSeq l fun q => { q with state := .listFetch })
        else firstGap l s'
  else answer l e .profileInvalid e.profile 0 s

/-- The activation claim of the entry in FETCH is taken (R89). -/
def activationTaken (l : Lane) (s : State) : State :=
  match (s.lane l).seq.taken with
  | none => s
  | some e =>
      match requestKind e.kind with
      | none => s
      | some kind => activate l e kind s

/-- The pair list of the active RAW request has arrived: it is checked and kept (R94, R95). -/
def listArrives (l : Lane) (r : ActiveRequest) (pairs : List RawPair) (s : State) : State :=
  if pairListOk pairs then
    firstGap l (s.modSeq l fun q => { q with active := some { r with pairs := pairs } })
  else finish l r .fieldRange 9 s

/-- A transaction is a pair list read, wanted or discarded. -/
def Purpose.isPairList : Purpose → Bool
  | .pairList _ => true
  | .adminEntry | .profileRecord | .counterBlock | .requestEntry | .captureBuffer _ | .event => false

/-- A pair list read ends. A discarded read only frees its place, and a fetch that waited for it asks now (R94, R100,
log entry 13). DESIGN CHOICE (log entry 34): it asks for the entry at the head without looking at the tail again. -/
def listReadEnds (l : Lane) (result : Option (List RawPair)) (s : State) : State :=
  let q := (s.lane l).seq
  match q.state, q.active, result with
  | .listFetch, some r, some pairs =>
      if pairs.length = r.entry.pairCount.toNat then
        endTransaction (.sequencer l) (· == .pairList false) (fun _ s => listArrives l r pairs s) s
      else s
  | .listFetch, some r, none =>
      endTransaction (.sequencer l) (· == .pairList false) (fun _ s => finish l r .fetchError 0 s) s
  | .fetch, _, _ =>
      endTransaction (.sequencer l) Purpose.isPairList
        (fun _ s => askBus (.sequencer l) (entryRead (s.lane l).queue) s) s
  | _, _, _ => endTransaction (.sequencer l) Purpose.isPairList (fun _ s => s) s

/-! ## RELEASE, abort, and the request queue's claim -/

/-- The active HOLD a RELEASE with this tag ends: its end cause is none and its completion not made (R107). -/
def Sequencer.releasable (q : Sequencer) (tag : Half) : Option ActiveRequest :=
  match q.active with
  | none => none
  | some r =>
      if r.kind = .hold ∧ r.entry.tag = tag ∧ r.endCause = none ∧ q.state ≠ .posting then some r else none

/-- RELEASE at the sequencer: none for NOT_HOLDING (R107). -/
def releaseHold (l : Lane) (tag : Half) (s : State) : Option State :=
  let q := (s.lane l).seq
  match q.releasable tag with
  | none => none
  | some r =>
      match q.state with
      | .sending => some (enterEnding l r .released s)
      | .idle | .fetch | .listFetch | .gap | .defer | .holding | .ending | .listen | .posting =>
          some (endHold l r .released s)

/-- A pair list read of the lane that is no longer wanted is marked so; it finishes on its own (R94, R100). -/
def discardListRead (l : Lane) (s : State) : State :=
  let mark (t : Transaction) : Transaction :=
    if t.purpose = .pairList false then { t with purpose := .pairList true } else t
  match s.busSlot (.sequencer l) with
  | .idle => s
  | .pending t => s.setBus (.sequencer l) (.pending (mark t))
  | .outstanding t => s.setBus (.sequencer l) (.outstanding (mark t))

/-- The active request is ended by an abort: a transmission on the line is cut, an end cause recorded before is discarded,
and the request completes ABORTED (R100, R109 (4), R118). -/
def abortActive (l : Lane) (r : ActiveRequest) (s : State) : State :=
  let s := setEndCause l r none (discardListRead l s)
  let s := match (s.lane l).tx with
    | none => s
    | some _ => leaveLine l r s
  finish l r .aborted 0 s

/-- The entries waiting in a RUNNING request queue (R83). -/
def RequestQueue.waiting (q : RequestQueue) : Nat :=
  match q.state with
  | .running => (q.tail + q.size - q.head) % q.size
  | .absent => 0
  | .faulted => 0

/-- The entries a FLUSH will take and answer, including one whose read is in flight (R100, R152). -/
def LaneState.toFlush (x : LaneState) : Nat :=
  match x.seq.state, x.seq.taken with
  | .fetch, none => max 1 x.queue.waiting
  | _, _ => x.queue.waiting

/-- What an abort does to the request in hand: the state after it and the ABORTED completions it made, 0 or 1 (R100,
R118, R152). -/
def abortInHand (l : Lane) (flush : Bool) (s : State) : State × Nat :=
  let q := (s.lane l).seq
  match q.state, q.active, q.taken with
  | .posting, _, _ => (s, 0)
  | _, some r, _ => (abortActive l r s, 1)
  | .fetch, none, some e => if flush then (answer l e .aborted e.profile 0 s, 1) else (s, 0)
  | _, none, _ => (s, 0)

/-- SET_REQUEST_QUEUE's claim at the sequencer: none for QUEUE_BUSY (R102, R146). A sequencer in POSTING refuses whatever
the queue's state (DEDUCED, log entry 11). -/
def claimRequestQueue (l : Lane) (a : RequestQueueArgs) (s : State) : Option State :=
  let x := s.lane l
  let accepts := x.seq.state == .idle && match x.queue.state with
    | .absent => true
    | .faulted => true
    | .running => x.queue.head == x.queue.tail
  if accepts then
    some <| s.modLane l fun x =>
      { x with queue :=
          if a.size.toNat = 0 then RequestQueue.absent
          else { state := .running, base := a.base, size := a.size.toNat, head := 0, tail := 0,
                 completionQueue := toFour a.completionQueue } }
  else none

/-- A SUBMIT notice at the sequencer: none when it is refused (R165). DESIGN CHOICE (log entry 34): in FETCH it moves the
tail and nothing else, also while the read is not in flight yet, so a tail moved back to the head then does not call the
read off. -/
def noticeRequestQueue (l : Lane) (tail : Nat) (s : State) : Option State :=
  let q := (s.lane l).queue
  match q.state with
  | .absent => none
  | .running | .faulted =>
      if tail < q.size then
        some (fetchCheck l (s.modLane l fun x => { x with queue := { x.queue with tail := tail } }))
      else none

end Sys2Proof.Machine
end

