-- ==== Sys2Proof/Machine/LaneControl.lean ====
section
/-! DEFINITION. What reaches a lane as a whole: SET_LANE applied (R150, R151), the reset of RESET_LANE (R154, R155), the
end of a capture write (R58), and the lane's part in an engine stop and an engine reset (R169, R171). -/

namespace Sys2Proof.Machine

/-! ## SET_LANE -/

/-- The lane refuses a SET_LANE: it has an active request, or its sequencer is reading an entry or a list (R150). -/
def LaneState.refusesSettings (x : LaneState) : Bool :=
  x.seq.active.isSome || x.seq.state == .fetch || x.seq.state == .listFetch

/-- The open press does not outlive the new settings (R82 (1), R151 (2)). -/
def pressEnds (x : LaneState) (new : LaneSettings) : Bool :=
  match x.press with
  | none => false
  | some p => !new.armed.contains p.profile || !new.mode.receives

/-- The press and the gate under the new settings (R151 (2), (3)). -/
def settlePressAndGate (l : Lane) (new : LaneSettings) (command : GateCommand) (s : State) : State :=
  let s := if pressEnds (s.lane l) new then closePress l s else s
  s.modLane l fun x =>
    let g := gateAfter new.guarded command new.guardWindow s.clock x.gateOpen x.gateDue
    { x with gateOpen := g.1, gateDue := g.2 }

/-- The decoder abandons its work, and the echo guard and the blind condition end (R151 (4)). -/
def quietDecoder (l : Lane) (s : State) : State :=
  (abandonWork l s).modLane l fun x => { x with decoder := .off, blind := false, echoDue := none }

/-- An accepted SET_LANE is applied, in the order of R151. -/
def applySettings (l : Lane) (new : LaneSettings) (command : GateCommand) (s : State) : State :=
  let wasDisabled := (s.lane l).settings.mode == .disabled
  let s := quietDecoder l (settlePressAndGate l new command s)
  let s := restartInput l (s.modLane l fun x => { x with settings := new })
  if wasDisabled then fetchCheck l s else s

/-! ## Capture writer -/

/-- The CAPTURE event of a finished capture (R58). -/
def captureEvent (c : FinishedCapture) (target : EqId) (busError : Bool) : RxEvent :=
  { kind := .capture, status := if busError then .writeError else c.status, target := target, profile := 0,
    bitCount := c.pairs.length, payload := 0, phase := .single, wake := false, repeatCount := 0, tag := 0,
    aux := c.buffer, timestamp := stamp c.start, lost := 0 }

/-- A transaction is a capture buffer write, wanted or discarded. -/
def Purpose.isCapture : Purpose → Bool
  | .captureBuffer _ => true
  | .adminEntry | .profileRecord | .counterBlock | .requestEntry | .pairList _ | .event => false

/-- A capture buffer write ends: its CAPTURE event enters the outbox and the writer is free. The result of a write that
RESET_LANE discarded is disregarded, and a capture that waited for its place asks now (R58, log entry 13). -/
def captureWriteEnds (l : Lane) (busError : Bool) (s : State) : State :=
  endTransaction (.captureWriter l) Purpose.isCapture
    (fun t s =>
      match (s.lane l).capture with
      | none => s
      | some c =>
          if t.purpose = .captureBuffer true then askBus (.captureWriter l) (captureWrite c) s
          else
            enterOutbox l (captureEvent c (s.lane l).settings.defaultEq busError)
              (s.modLane l fun x => { x with capture := none })) s

/-- A capture buffer write of the lane that is no longer wanted is marked so (R58, R154). -/
def discardCaptureWrite (l : Lane) (s : State) : State :=
  let mark (t : Transaction) : Transaction := { t with purpose := .captureBuffer true }
  match s.busSlot (.captureWriter l) with
  | .idle => s
  | .pending t => s.setBus (.captureWriter l) (.pending (mark t))
  | .outstanding t => s.setBus (.captureWriter l) (.outstanding (mark t))

/-! ## The reset of RESET_LANE -/

/-- The buffers of the CAPTURE events in a list, oldest first. -/
def captureBuffers (events : List RxEvent) : List Word :=
  events.filterMap fun ev =>
    match ev.kind with
    | .capture => some ev.aux
    | .frame => none
    | .notice => none

/-- The outbox at a lane reset: the events discarded, and the event kept because its write is in flight (R65, R155). -/
def State.outboxAtReset (s : State) (l : Lane) : List RxEvent × Option RxEvent :=
  let o := (s.lane l).outbox
  match o.settling with
  | some ev => (o.events, some ev)
  | none =>
      match s.writer.inFlight, o.events with
      | some (.outbox l', _), ev :: rest => if l' = l then (rest, some ev) else (ev :: rest, none)
      | _, events => (events, none)

/-- The buffer that the lane's decoder or its capture writer holds; never both, since a buffer is taken only while the
writer is free (R60). -/
def LaneState.heldBuffers (x : LaneState) : List Word :=
  x.decoder.buffer.toList ++ (x.capture.map FinishedCapture.buffer).toList

/-- The buffers a lane reset returns to the list. Between the outbox's and the others the order is a free value (R154,
log entry 10). -/
def returnsInOrder (n : Nat) (held boxed : List Word) : List Word :=
  if held.isEmpty then boxed
  else if boxed.isEmpty then held
  else if Config.outboxReturnsFirst n then boxed ++ held
  else held ++ boxed

/-- A lane after the reset step of RESET_LANE; its request queue, its sequencer and its pin stay as they are (R154). -/
def LaneState.afterReset (x : LaneState) (kept : Option RxEvent) : LaneState :=
  { x with settings := LaneSettings.reset, counters := countersReset, filter := none, blind := false,
           echoDue := none, decoder := .off, press := none, gateOpen := false, gateDue := none,
           outbox := { events := [], lost := 0, settling := kept }, capture := none }

/-- The reset step of RESET_LANE (R154 (2)). -/
def resetLane (l : Lane) (s : State) : State :=
  let x := s.lane l
  let o := s.outboxAtReset l
  let boxed := captureBuffers o.1
  let s := if x.capture.isSome then discardCaptureWrite l s else s
  let s := { s with captureList := s.captureList ++ returnsInOrder s.freeIndex x.heldBuffers boxed,
                    freeIndex := if x.heldBuffers.isEmpty || boxed.isEmpty then s.freeIndex else s.freeIndex + 1 }
  s.setLane l (x.afterReset o.2)

/-! ## Engine stop and engine reset -/

/-- A lane at engine stop: its settings, its counters and its pin stay as they are (R169). -/
def LaneState.stopped (x : LaneState) : LaneState :=
  { LaneState.reset with settings := x.settings, counters := x.counters, pinHigh := x.pinHigh }

/-- A lane at engine reset: its input pin is driven from outside (R171). -/
def LaneState.engineReset (x : LaneState) : LaneState := { LaneState.reset with pinHigh := x.pinHigh }

/-- A lane when the engine enters RUNNING: nothing of an earlier run is left, and its input side restarts in a receive
mode (R23, R32, R168). -/
def LaneState.started (x : LaneState) : LaneState :=
  let x := x.stopped
  if x.settings.mode.receives then { x with filter := some (sampledFilter x 0), decoder := .hunt 0 } else x

end Sys2Proof.Machine
end

