-- ==== Sys2Proof/Machine/Admin.lean ====
section
/-! DEFINITION. The command unit (08): taking admin entries, the posting slot, the waits of its commands, and what the
end of an event write does to the writer served (R125 (3)). -/

namespace Sys2Proof.Machine

/-- The state of the command unit changes. -/
def setAdmin (x : AdminState) (s : State) : State := { s with admin := { s.admin with state := x } }

/-- The read of the admin entry at the head: 64 bytes at base + 64 × head (R140). -/
def adminRead (q : AdminQueue) : Transaction :=
  { purpose := .adminEntry, address := q.base + 64 * BitVec.ofNat 32 q.head, length := 64, data := [] }

/-- The command unit, IDLE with head unequal to tail, enters FETCH and asks for the entry at the head (R140). -/
def adminFetchCheck (s : State) : State :=
  match s.admin.state, s.admin.queue with
  | .idle, some q => if q.head = q.tail then s else askBus .commandUnit (adminRead q) (setAdmin .fetch s)
  | _, _ => s

/-- The deciding happening: one ADMIN_DONE goes into the posting slot (R142). -/
def postDone (status : Code) (tag : Half) (profile : Byte) (detail : Nat) (s : State) : State :=
  setAdmin (.posting { status := status, tag := tag, profile := profile, detail := BitVec.ofNat 16 detail,
                       timestamp := s.timeBase }) s

/-- The admin head advances by one, modulo size (R140 (1)). -/
def advanceAdmin (s : State) : State :=
  { s with admin := { s.admin with queue := s.admin.queue.map fun q => { q with head := (q.head + 1) % q.size } } }

/-- An admin entry read ends with data: the command is taken and checked, and the event writer chooses (R140, R141). -/
def takeCommand (act : State → State) (s : State) : State :=
  endTransaction .commandUnit (· == .adminEntry) (fun _ s => chooseEvent (act (advanceAdmin s))) s

/-- The range checks of a command: the first field out of range ends it FIELD_RANGE, and otherwise it goes on (R141). -/
def checked (tag : Half) (checks : List (Nat × Bool)) (act : State → State) (s : State) : State :=
  match firstBad checks with
  | some n => postDone .fieldRange tag 0 n s
  | none => act s

/-- A claim that its owner accepts or refuses decides the command (R145, R146). -/
def decided (tag : Half) (refusal : Code) (claim : Option State) (s : State) : State :=
  match claim with
  | some s' => postDone .ok tag 0 0 s'
  | none => postDone refusal tag 0 0 s

/-! ## Profiles -/

/-- A slot is in use: armed on a lane, or named by an active request (R2). -/
def State.inUse (s : State) (i : SlotId) : Bool :=
  allLanes.any fun l =>
    let x := s.lane l
    x.settings.armed.contains i ||
      match x.seq.active with
      | none => false
      | some r => (namedSlots r.kind r.entry).contains i

/-- The read of a profile record: 64 bytes at the record address (R16). -/
def recordRead (address : Word) : Transaction :=
  { purpose := .profileRecord, address := address, length := 64, data := [] }

/-- LOAD_PROFILE once its own fields pass (R16 (1), (2)). -/
def beginLoad (tag : Half) (slot : Byte) (address : Word) (s : State) : State :=
  let i := toSlot slot
  if s.inUse i then postDone .profileInUse tag slot 0 s
  else askBus .commandUnit (recordRead address) (setAdmin (.executing tag (.profileRead i)) (s.setSlot i .loading))

/-- The end of the profile record read (R16 (3), (4), R17). -/
def endLoad (tag : Half) (i : SlotId) (record : Option ProfileRecord) (s : State) : State :=
  let slot := BitVec.ofNat 8 i.val
  match record with
  | none => postDone .fetchError tag slot 0 (s.setSlot i .invalid)
  | some r =>
      match recordFault r with
      | some n => postDone .fieldRange tag slot n (s.setSlot i .invalid)
      | none => postDone .ok tag slot 0 (s.setSlot i (.valid (profileOf r)))

/-- CLEAR_PROFILE once its own field passes (R21). -/
def clearSlot (tag : Half) (slot : Byte) (s : State) : State :=
  let i := toSlot slot
  if s.inUse i then postDone .profileInUse tag slot 0 s
  else postDone .ok tag slot 0 (s.setSlot i .invalid)

/-! ## Lanes -/

/-- SET_LANE once its ranges pass: duplicates, slots, then the lane (R149, R150). -/
def setLaneChecked (tag : Half) (a : LaneArgs) (s : State) : State :=
  let l := toFour a.lane
  match firstDuplicate 12 [] (armedList a) with
  | some n => postDone .fieldRange tag 0 n s
  | none =>
      match firstUnarmable s 12 (armedList a) with
      | some n => postDone .profileInvalid tag 0 n s
      | none =>
          if (s.lane l).refusesSettings then postDone .laneBusy tag 0 0 s
          else postDone .ok tag 0 0 (applySettings l (laneSettings a) (gateCommand a.gateCommand) s)

/-- The lane reports that the completions an abort caused have been written: the reset step of a RESET_LANE is taken, and
the ADMIN_DONE is made with the number of ABORTED completions (R153, R154). -/
def reportAbort (l : Lane) (aborted : Nat) (s : State) : State :=
  let s := s.modSeq l fun q => { q with abort := none }
  match s.admin.state with
  | .executing tag (.laneAbort _ reset) => postDone .ok tag 0 aborted (if reset then resetLane l s else s)
  | .executing _ _ | .stopped | .idle | .fetch | .posting _ | .halted => s

/-- ABORT_LANE or RESET_LANE at the lane (R100, R152, R154): the request in hand is ended; the lane reports at once when
nothing was caused, and otherwise notes the entries to flush, the first of which an IDLE sequencer reads now. -/
def abortLane (tag : Half) (l : Lane) (flush reset : Bool) (s : State) : State :=
  let s := setAdmin (.executing tag (.laneAbort l reset)) s
  let entries := if flush then (s.lane l).toFlush else 0
  let caught := abortInHand l flush s
  if entries = 0 ∧ caught.2 = 0 then reportAbort l 0 caught.1
  else
    let s' := caught.1.modSeq l fun q => { q with abort := some { remaining := entries, aborted := caught.2 } }
    match (s'.lane l).seq.state with
    | .idle => beginFetch l s'
    | .fetch | .listFetch | .gap | .defer | .sending | .holding | .ending | .listen | .posting => s'

/-! ## Counters -/

/-- READ_COUNTERS once its fields pass: the counters are read at their owner, and one write of the block is asked for
(R158). -/
def beginCounters (tag : Half) (a : CounterArgs) (s : State) : State :=
  let source := counterSource a
  let block := counterBytes (s.counterBlock source)
  askBus .commandUnit { purpose := .counterBlock, address := a.address, length := block.length, data := block }
    (setAdmin (.executing tag (.counterWrite source (isOn a.clear))) s)

/-- The end of the counter block write (R159). -/
def endCounters (tag : Half) (source : CounterSource) (clear busError : Bool) (s : State) : State :=
  if busError then postDone .writeError tag 0 0 s
  else postDone .ok tag 0 0 (if clear then clearCounters source s else s)

/-- POST_CAPTURE_BUFFER at the capture list: none for LIST_FULL (R60 (1), R157). -/
def postBuffer (address : Word) (s : State) : Option State :=
  if s.heldCount < Config.captureDepth then
    some { s with captureList := s.captureList ++ [address], heldCount := s.heldCount + 1 }
  else none

/-! ## The writer of a written event -/

/-- A completion has been written: the request is over and the sequencer IDLE. A flush goes on with its next entry, the
last completion an abort caused is reported, and otherwise the next entry may be read (R85, R99, R100, R153, R154). -/
def completionWritten (l : Lane) (s : State) : State :=
  let s := s.modSeq l fun q => { q with state := .idle, active := none, completion := none }
  match (s.lane l).seq.abort with
  | none => fetchCheck l s
  | some a => if a.remaining = 0 then fetchCheck l (reportAbort l a.aborted s) else beginFetch l s

/-- The event leaves its writer, which acts on it (R125 (3)). -/
def writerServed (w : Writer) (s : State) : State :=
  match w with
  | .commandUnit => adminFetchCheck (setAdmin .idle s)
  | .sequencer l => completionWritten l s
  | .outbox l => leaveOutbox l s

/-- The event write in flight is acknowledged (R125): the queue moves on, the event leaves its writer, and the next offer
is chosen. -/
def eventWritten (s : State) : State :=
  endTransaction .eventWriter (· == .event)
    (fun _ s =>
      match s.writer.inFlight with
      | none => s
      | some (w, q) => chooseEvent (writerServed w (writeOver w (s.setEq q ((s.eq q).written s.clock))))) s

/-- The event write in flight ends with a bus error (R135): the queue is FAULTED and the event stays with its writer,
unless a RESET_LANE left it to this end (R155). -/
def eventFailed (s : State) : State :=
  endTransaction .eventWriter (· == .event)
    (fun _ s =>
      match s.writer.inFlight with
      | none => s
      | some (w, q) =>
          let s := writeOver w (s.setEq q (s.eq q).failed)
          chooseEvent (match w with
            | .outbox l => dropSettling l s
            | .commandUnit => s
            | .sequencer _ => s)) s

end Sys2Proof.Machine
end

