-- ==== Sys2Proof/Machine/LaneCommands.lean ====
section
/-! DEFINITION. The meanings of a lane's happenings: pin edges, transitions, crossings and the timers of the receive side
(02, 03, 04); activation, the end of a transmission and the timers of the transmit side (05, 06); and the holdoff timer
of an event queue (07). An expiry acts when its timer runs and its moment has come (log entries 2 and 26). -/

namespace Sys2Proof.Machine

/-- PIN_EDGE (R25). -/
def execPinEdge (lane : Lane) (high : Bool) (s : State) : Host.Outcome State Fault Refusal :=
  .next (chooseEvent (takePinEdge lane high s))

/-- TRANSITION_CONFIRM (R25, R26). -/
def execTransitionConfirm (lane : Lane) (s : State) : Host.Outcome State Fault Refusal :=
  .next (chooseEvent (confirmHeld lane s))

/-- THRESHOLD_CROSSING (R27). -/
def execThresholdCrossing (lane : Lane) (s : State) : Host.Outcome State Fault Refusal :=
  .next (chooseEvent (crossingsNow lane s))

/-- REPEAT_WINDOW_EXPIRY (R71, R72). -/
def execRepeatWindowExpiry (lane : Lane) (s : State) : Host.Outcome State Fault Refusal :=
  .next (match (s.lane lane).press with
    | none => s
    | some p => if p.windowDue ≤ s.clock then chooseEvent (closePress lane s) else s)

/-- GATE_WINDOW_EXPIRY (R80). -/
def execGateWindowExpiry (lane : Lane) (s : State) : Host.Outcome State Fault Refusal :=
  .next (if expired (s.lane lane).gateDue s.clock then
      s.modLane lane fun x => { x with gateOpen := false, gateDue := none }
    else s)

/-- ECHO_GUARD_EXPIRY (R32). -/
def execEchoGuardExpiry (lane : Lane) (s : State) : Host.Outcome State Fault Refusal :=
  .next (if expired (s.lane lane).echoDue s.clock then chooseEvent (withdrawBlind lane s) else s)

/-- ACTIVATION (R89). -/
def execActivation (lane : Lane) (s : State) : Host.Outcome State Fault Refusal :=
  .next (chooseEvent (activationTaken lane s))

/-- SPACING_TIMER_EXPIRY (R93, R96, R104, R112). -/
def execSpacingTimerExpiry (lane : Lane) (s : State) : Host.Outcome State Fault Refusal :=
  .next (spacingExpires lane s)

/-- TRANSMISSION_END (R92, R104, R109, R113). -/
def execTransmissionEnd (lane : Lane) (s : State) : Host.Outcome State Fault Refusal :=
  .next (chooseEvent (transmissionEnds lane s))

/-- DEFER_TIMER_EXPIRY (R97). -/
def execDeferTimerExpiry (lane : Lane) (s : State) : Host.Outcome State Fault Refusal :=
  .next (chooseEvent (deferExpires lane s))

/-- HOLD_LIMIT_EXPIRY (R105). -/
def execHoldLimitExpiry (lane : Lane) (s : State) : Host.Outcome State Fault Refusal :=
  .next (chooseEvent (holdLimitExpires lane s))

/-- REPLY_WINDOW_EXPIRY (R115). -/
def execReplyWindowExpiry (lane : Lane) (s : State) : Host.Outcome State Fault Refusal :=
  .next (chooseEvent (replyExpires lane s))

/-- HOLDOFF_EXPIRY (R129 (3)). -/
def execHoldoffExpiry (queue : EqId) (s : State) : Host.Outcome State Fault Refusal :=
  .next (if expired (s.eq queue).holdoffDue s.clock then s.setEq queue (moderateHoldoff (s.eq queue)) else s)

end Sys2Proof.Machine
end

