-- ==== Sys2Proof/Machine/Clock.lean ====
section
/-! DEFINITION. What the part does when no command waits (log entry 1): the happenings that time alone brings about, and
the time base's count. DESIGN CHOICE: on an empty queue the first due happening in the order below is taken, and when
none is due the time base moves on by 1 µs while the engine is RUNNING. Unsafe: the part may take happenings of one
moment in another order; a sender takes them in any order by sending them as commands. -/

namespace Sys2Proof.Machine

/-- The spacing timer is due (R93). -/
def LaneState.spacingDue (x : LaneState) (now : Moment) : Bool := expired x.seq.spacingDue now

/-- The transmission on the line has ended (R28). -/
def LaneState.transmissionDue (x : LaneState) (now : Moment) : Bool :=
  match x.tx with
  | none => false
  | some t => decide (t.endsAt ≤ now)

/-- The repeat window of the open press has run out (R71). -/
def LaneState.windowDue (x : LaneState) (now : Moment) : Bool :=
  match x.press with
  | none => false
  | some p => decide (p.windowDue ≤ now)

/-- A threshold crossing is due and no excursion holds it back (R27). -/
def State.crossingDue (s : State) (l : Lane) : Bool :=
  (s.crossingBy l s.clock).isSome && !(s.lane l).excursionPending

/-- The time-driven happenings of a lane, each with whether it is due, in the order the idle step tries them. -/
def State.laneHappenings (s : State) (l : Lane) : List (Bool × Instr) :=
  let x := s.lane l
  [(x.transmissionDue s.clock, .transmissionEnd l), (expired x.echoDue s.clock, .echoGuardExpiry l),
    ((x.heldExcursion s.clock).isSome, .transitionConfirm l), (s.crossingDue l, .thresholdCrossing l),
    (x.windowDue s.clock, .repeatWindowExpiry l), (expired x.gateDue s.clock, .gateWindowExpiry l),
    (expired x.seq.limitDue s.clock, .holdLimitExpiry l), (expired x.seq.replyDue s.clock, .replyWindowExpiry l),
    (expired x.seq.deferDue s.clock, .deferTimerExpiry l), (x.spacingDue s.clock, .spacingTimerExpiry l)]

/-- Every time-driven happening of the part, lanes first. -/
def State.happenings (s : State) : List (Bool × Instr) :=
  allLanes.flatMap s.laneHappenings ++
    allQueues.map fun q => (expired (s.eq q).holdoffDue s.clock, .holdoffExpiry q)

/-- The time-driven happening the idle step takes, if one is due. -/
def State.dueHappening (s : State) : Option Instr := (s.happenings.find? fun h => h.1).map Prod.snd

/-- The time base counts one microsecond while the engine is RUNNING (R30). -/
def tick (s : State) : State :=
  match s.engine with
  | .running => { s with clock := s.clock + 1 }
  | .off => s
  | .stopping => s

end Sys2Proof.Machine
end

