-- ==== Sys2Proof/Machine/AdminCommands.lean ====
section
/-! DEFINITION. The meanings of the taken admin commands (08, 8.2 to 8.6). Each is the end of an admin entry read whose
entry holds the command. -/

namespace Sys2Proof.Machine

/-- UNKNOWN_COMMAND (R141 (1)). A command field that names one of the twelve commands is not this happening, and nothing
comes about (log entry 2). -/
def execUnknownCommand (command : Byte) (tag : Half) (s : State) : Host.Outcome State Fault Refusal :=
  .next (if knownCommand command then s else takeCommand (postDone .unknownKind tag 0 0) s)

/-- NOP (R144). -/
def execNop (tag : Half) (s : State) : Host.Outcome State Fault Refusal :=
  .next (takeCommand (postDone .ok tag 0 0) s)

/-- SET_EVENT_QUEUE (R145). -/
def execSetEventQueue (tag : Half) (args : EventQueueArgs) (s : State) : Host.Outcome State Fault Refusal :=
  .next (takeCommand
    (checked tag (eventQueueChecks args) fun s =>
      decided tag .queueBusy (claimEventQueue (toFour args.queue) args s) s) s)

/-- SET_REQUEST_QUEUE (R146). -/
def execSetRequestQueue (tag : Half) (args : RequestQueueArgs) (s : State) : Host.Outcome State Fault Refusal :=
  .next (takeCommand
    (checked tag (requestQueueChecks args) fun s =>
      decided tag .queueBusy (claimRequestQueue (toFour args.lane) args s) s) s)

/-- LOAD_PROFILE (R16, R147). -/
def execLoadProfile (tag : Half) (slot : Byte) (address : Word) (s : State) : Host.Outcome State Fault Refusal :=
  .next (takeCommand (checked tag (loadProfileChecks slot address) (beginLoad tag slot address)) s)

/-- CLEAR_PROFILE (R21, R147). -/
def execClearProfile (tag : Half) (slot : Byte) (s : State) : Host.Outcome State Fault Refusal :=
  .next (takeCommand (checked tag (clearProfileChecks slot) (clearSlot tag slot)) s)

/-- LOAD_FILTER (R148). -/
def execLoadFilter (tag : Half) (args : FilterArgs) (s : State) : Host.Outcome State Fault Refusal :=
  .next (takeCommand
    (checked tag (filterChecks args) fun s =>
      postDone .ok tag 0 0 (s.setEntry (toEntry args.entry) { filter := filterOf args, hits := 0 })) s)

/-- SET_LANE (R149, R150, R151). -/
def execSetLane (tag : Half) (args : LaneArgs) (s : State) : Host.Outcome State Fault Refusal :=
  .next (takeCommand (checked tag (laneChecks args) (setLaneChecked tag args)) s)

/-- ABORT_LANE (R152, R153). -/
def execAbortLane (tag : Half) (lane scope : Byte) (s : State) : Host.Outcome State Fault Refusal :=
  .next (takeCommand
    (checked tag (abortChecks lane scope) (abortLane tag (toFour lane) (isOn scope) false)) s)

/-- RESET_LANE (R154). -/
def execResetLane (tag : Half) (lane : Byte) (s : State) : Host.Outcome State Fault Refusal :=
  .next (takeCommand (checked tag (laneOnlyChecks lane) (abortLane tag (toFour lane) true true)) s)

/-- RELEASE (R107, R156). -/
def execRelease (tag : Half) (lane : Byte) (holdTag : Half) (s : State) : Host.Outcome State Fault Refusal :=
  .next (takeCommand
    (checked tag (laneOnlyChecks lane) fun s =>
      decided tag .notHolding (releaseHold (toFour lane) holdTag s) s) s)

/-- POST_CAPTURE_BUFFER (R157). -/
def execPostCaptureBuffer (tag : Half) (address : Word) (s : State) : Host.Outcome State Fault Refusal :=
  .next (takeCommand
    (checked tag (captureBufferChecks address) fun s => decided tag .listFull (postBuffer address s) s) s)

/-- READ_COUNTERS (R158). -/
def execReadCounters (tag : Half) (args : CounterArgs) (s : State) : Host.Outcome State Fault Refusal :=
  .next (takeCommand (checked tag (counterChecks args) (beginCounters tag args)) s)

end Sys2Proof.Machine
end

