-- ==== Sys2Proof/Machine/Engine.lean ====
section
/-! DEFINITION. The register window and the engine (09): CONTROL, STATUS, ADMIN_BASE, SUBMIT and EVENT_ACK writes, every
register read, enable, engine stop, engine reset and power-on reset. -/

namespace Sys2Proof.Machine

/-! ## Engine stop, engine reset, power-on reset -/

/-- The bus port drops every pending request; outstanding transactions stay (R175). -/
def BusSlot.dropPending : BusSlot → BusSlot
  | .pending _ => .idle
  | .idle => .idle
  | .outstanding t => .outstanding t

/-- A slot in LOADING becomes INVALID at engine stop (R20). -/
def Slot.stopped : Slot → Slot
  | .loading => .invalid
  | .invalid => .invalid
  | .valid p => .valid p

/-- An event queue at engine stop (R137 (1)); the fault bit stays until OFF. -/
def EventQueue.stopped (q : EventQueue) : EventQueue :=
  { q with state := .absent, unread := 0, flag := false, holdoffDue := none }

/-- Every block at an engine stop (R169), the engine being STOPPING. -/
def stopBlocks (s : State) : State :=
  { s with engine := .stopping, admin := CommandUnit.reset, slots := each Slot.stopped s.slots,
           lanes := each LaneState.stopped s.lanes, captureList := [], heldCount := 0,
           eqs := each EventQueue.stopped s.eqs, writer := EventWriter.reset,
           bus := { s.bus with slots := each BusSlot.dropPending s.bus.slots } }

/-- Engine stop: STOPPING while a transaction is outstanding, otherwise OFF within the same happening (R169). -/
def stopEngine (s : State) : State := settleStopping (stopBlocks s)

/-- Every block at an engine reset, the engine being STOPPING (R171). -/
def resetBlocks (s : State) : State :=
  { State.reset with
    engine := .stopping, lanes := each LaneState.engineReset s.lanes,
    bus := { slots := each BusSlot.dropPending s.bus.slots, pointer := 0 }, freeIndex := s.freeIndex,
    pending := s.pending }

/-- Engine reset: STOPPING while a transaction is outstanding, otherwise OFF (R171). -/
def resetEngine (s : State) : State := settleStopping (resetBlocks s)

/-- Power-on reset: every block as at engine reset, nothing outstanding, OFF (R171). The input pins are driven from
outside and stay as they are, and so do the model's own fields (log entry 20). -/
def powerOn (s : State) : State :=
  { State.reset with
    lanes := each LaneState.engineReset s.lanes, freeIndex := s.freeIndex, pending := s.pending }

/-! ## Enable -/

/-- The base that ADMIN_BASE expresses (R164). -/
def adminBaseAddress (word : Word) : Word := word &&& 0xFFFFFFF0#32

/-- The size code of ADMIN_BASE (R164). -/
def adminSizeCode (word : Word) : Nat := (word.extractLsb' 0 4).toNat

/-- ADMIN_BASE is acceptable: base a multiple of 64 and a valid size code (R168). -/
def adminBaseOk (word : Word) : Bool := aligned 64 (adminBaseAddress word) && decide (adminSizeCode word < 7)

/-- The engine enters RUNNING (R168 (2)). -/
def enterRunning (s : State) : State :=
  { s with engine := .running, clock := 0, adminFault := false,
           admin :=
             { state := .idle,
               queue := some { base := adminBaseAddress s.adminBase, size := 4 * 2 ^ adminSizeCode s.adminBase,
                               head := 0, tail := 0 } },
           lanes := each LaneState.started s.lanes, captureList := [], heldCount := 0,
           eqs := each EventQueue.stopped s.eqs, writer := EventWriter.reset, bus := BusPort.reset }

/-- A write of ENABLE 1 in OFF (R168). -/
def enableEngine (s : State) : State := if adminBaseOk s.adminBase then enterRunning s else { s with adminFault := true }

/-! ## Register writes -/

/-- A write to CONTROL (R162). -/
def writeControl (word : Word) (s : State) : State :=
  if word.getLsbD 1 then resetEngine s
  else
    let s := { s with irqEnable := word.getLsbD 2 }
    match s.engine, word.getLsbD 0 with
    | .off, true => enableEngine s
    | .running, false => stopEngine s
    | .off, false => s
    | .running, true => s
    | .stopping, _ => s

/-- A write to STATUS (R163): 1 clears SUBMIT_ERROR or ACK_ERROR, and ADMIN_FAULT while the engine is OFF. -/
def writeStatus (word : Word) (s : State) : State :=
  { s with adminFault := s.adminFault && !(word.getLsbD 2 && s.engine == .off),
           submitError := s.submitError && !word.getLsbD 3, ackError := s.ackError && !word.getLsbD 4 }

/-- A write to ADMIN_BASE, which takes effect in OFF (R164). -/
def writeAdminBase (word : Word) (s : State) : State :=
  match s.engine with
  | .off => { s with adminBase := word }
  | .running => s
  | .stopping => s

/-- A notice for the admin queue: none when it is refused (R165). DESIGN CHOICE (log entry 34): in FETCH it moves the tail
and nothing else, also while the read is not in flight yet. -/
def noticeAdminQueue (tail : Nat) (s : State) : Option State :=
  match s.admin.queue with
  | none => none
  | some q =>
      if tail < q.size then
        some (adminFetchCheck { s with admin := { s.admin with queue := some { q with tail := tail } } })
      else none

/-- A write to SUBMIT (R165): queue id in bits 0 to 2, tail in bits 16 to 23. A refused notice sets SUBMIT_ERROR. -/
def writeSubmit (word : Word) (s : State) : State :=
  let id := (word.extractLsb' 0 3).toNat
  let tail := (word.extractLsb' 16 8).toNat
  let taken :=
    if h : id < 4 then noticeRequestQueue ⟨id, h⟩ tail s
    else if id = 4 then noticeAdminQueue tail s
    else none
  taken.getD { s with submitError := true }

/-- A host write of `width` bytes at `offset` (R160, 10.4): the seven registers, every other write disregarded. -/
def hostWrite (offset width : Nat) (word : Word) (s : State) : State :=
  if width = 4 then
    match offset with
    | 0x04 => writeControl word s
    | 0x08 => writeStatus word s
    | 0x0C => writeAdminBase word s
    | 0x10 => writeSubmit word s
    | 0x14 => acknowledge word s
    | _ => s
  else s

/-! ## Register reads -/

/-- The register at a word offset, as a 32-bit read gives it (R160, R161, R179). -/
def State.register (s : State) (offset : Nat) : Word :=
  match offset with
  | 0x00 => Config.ident
  | 0x04 => s.control
  | 0x08 => s.status
  | 0x0C => s.adminBase
  | 0x18 => s.timeBase
  | _ => 0

/-- The byte a host read sees at an offset: bytes above 0x1B read 0 (R160 (1), (4)). DESIGN CHOICE (log entry 32): this
holds byte by byte, so a read of 2 or 3 bytes that begins inside the window and ends above it gives the bytes inside and 0
for the rest; the manual speaks only of reads within the window and of reads above it. -/
def State.registerByte (s : State) (offset : Nat) : Byte :=
  if offset ≤ 0x1B then (s.register (offset / 4 * 4)).extractLsb' (8 * (offset % 4)) 8 else 0

/-- A host read of `width` bytes at `offset`, lowest byte first: a 32-bit read at an offset that is not a multiple of 4
reads 0, a narrower one returns the addressed bytes (R160). Reads change no state. -/
def State.readBytes (s : State) (offset width : Nat) : List Byte :=
  (List.range width).map fun i => if width = 4 ∧ offset % 4 ≠ 0 then 0 else s.registerByte (offset + i)

end Sys2Proof.Machine
end

