-- ==== Sys2Proof/Machine/BusCommands.lean ====
section
/-! DEFINITION. The meanings of the bus port's grant and of the ends of bus transactions (09, 9.3 and 9.4). -/

namespace Sys2Proof.Machine

/-- BUS_GRANT (R174). The port starts transactions while the engine is RUNNING (R175). -/
def execBusGrant (s : State) : Host.Outcome State Fault Refusal :=
  .next (match s.engine with
    | .running => startTransaction s
    | .off => s
    | .stopping => s)

/-- STOPPING_TRANSACTION_END (R170): whether a bus error ended the transaction makes no difference. -/
def execStoppingTransactionEnd (client : BusClient) (_busError : Bool) (s : State) :
    Host.Outcome State Fault Refusal :=
  .next (match s.engine with
    | .stopping => endTransaction client (fun _ => true) (fun _ s => s) s
    | .off => s
    | .running => s)

/-- ADMIN_READ_ERROR (R140 (2), R172). -/
def execAdminReadError (s : State) : Host.Outcome State Fault Refusal :=
  .next (endTransaction .commandUnit (· == .adminEntry)
    (fun _ s => setAdmin .halted { s with adminFault := true }) s)

/-- PROFILE_RECORD_READ_END (R16, R17). -/
def execProfileRecordReadEnd (record : Option ProfileRecord) (s : State) : Host.Outcome State Fault Refusal :=
  .next (endTransaction .commandUnit (· == .profileRecord)
    (fun _ s => match s.admin.state with
      | .executing tag (.profileRead slot) => chooseEvent (endLoad tag slot record s)
      | _ => s) s)

/-- COUNTER_BLOCK_WRITE_END (R159). -/
def execCounterBlockWriteEnd (busError : Bool) (s : State) : Host.Outcome State Fault Refusal :=
  .next (endTransaction .commandUnit (· == .counterBlock)
    (fun _ s => match s.admin.state with
      | .executing tag (.counterWrite source clear) => chooseEvent (endCounters tag source clear busError s)
      | _ => s) s)

/-- CAPTURE_WRITE_END (R58). -/
def execCaptureWriteEnd (lane : Lane) (busError : Bool) (s : State) : Host.Outcome State Fault Refusal :=
  .next (chooseEvent (captureWriteEnds lane busError s))

/-- REQUEST_ENTRY_READ_END (R85, R88). -/
def execRequestEntryReadEnd (lane : Lane) (entry : RequestEntry) (s : State) : Host.Outcome State Fault Refusal :=
  .next (chooseEvent (entryReadEnds lane entry s))

/-- REQUEST_READ_ERROR (R86). -/
def execRequestReadError (lane : Lane) (s : State) : Host.Outcome State Fault Refusal :=
  .next (chooseEvent (entryReadFails lane s))

/-- PAIR_LIST_READ_END (R94, R95). -/
def execPairListReadEnd (lane : Lane) (pairs : Option (List RawPair)) (s : State) :
    Host.Outcome State Fault Refusal :=
  .next (chooseEvent (listReadEnds lane pairs s))

/-- EVENT_WRITE_END (R125). -/
def execEventWriteEnd (s : State) : Host.Outcome State Fault Refusal := .next (eventWritten s)

/-- EVENT_WRITE_ERROR (R135). -/
def execEventWriteError (s : State) : Host.Outcome State Fault Refusal := .next (eventFailed s)

end Sys2Proof.Machine
end

