-- ==== Sys2Proof/Machine/EngineCommands.lean ====
section
/-! DEFINITION. The meanings of the host's register writes and of the power-on reset (07, 09). -/

namespace Sys2Proof.Machine

/-- POWER_ON_RESET (R171). -/
def execPowerOnReset (s : State) : Host.Outcome State Fault Refusal := .next (powerOn s)

/-- ENGINE_RESET (R162 (1), R171). -/
def execEngineReset (word : Word) (s : State) : Host.Outcome State Fault Refusal := .next (writeControl word s)

/-- ENABLE (R162 (2), R168). -/
def execEnable (word : Word) (s : State) : Host.Outcome State Fault Refusal := .next (writeControl word s)

/-- ENGINE_STOP (R162 (2), R169). -/
def execEngineStop (word : Word) (s : State) : Host.Outcome State Fault Refusal := .next (writeControl word s)

/-- IRQ_ENABLE_WRITE (R162 (3)); the write carries ENABLE as well. -/
def execIrqEnableWrite (word : Word) (s : State) : Host.Outcome State Fault Refusal := .next (writeControl word s)

/-- SUBMIT_ERROR_CLEAR (R163). -/
def execSubmitErrorClear (word : Word) (s : State) : Host.Outcome State Fault Refusal := .next (writeStatus word s)

/-- ACK_ERROR_CLEAR (R163). -/
def execAckErrorClear (word : Word) (s : State) : Host.Outcome State Fault Refusal := .next (writeStatus word s)

/-- ADMIN_FAULT_CLEAR (R163). -/
def execAdminFaultClear (word : Word) (s : State) : Host.Outcome State Fault Refusal := .next (writeStatus word s)

/-- ADMIN_BASE_WRITE (R164). -/
def execAdminBaseWrite (word : Word) (s : State) : Host.Outcome State Fault Refusal := .next (writeAdminBase word s)

/-- SUBMIT (R165). -/
def execSubmit (word : Word) (s : State) : Host.Outcome State Fault Refusal := .next (writeSubmit word s)

/-- EVENT_ACK (R127, R166). -/
def execEventAck (word : Word) (s : State) : Host.Outcome State Fault Refusal := .next (acknowledge word s)

/-- CLEAR_NOTICE (R131): an EVENT_ACK with the clear-notice flag. -/
def execClearNotice (word : Word) (s : State) : Host.Outcome State Fault Refusal := .next (acknowledge word s)

/-- REGISTER_WRITE_IGNORED (R160). -/
def execRegisterWriteIgnored (offset width : Nat) (word : Word) (s : State) : Host.Outcome State Fault Refusal :=
  .next (hostWrite offset width word s)

end Sys2Proof.Machine
end

