-- ==== Sys2Proof/Machine/Dispatch.lean ====
section
/-! DEFINITION. One arm per command: a direct call of its meaning. -/

namespace Sys2Proof.Machine

/-- The effect of a command on everything but the queue of commands. -/
def exec (i : Instr) (s : State) : Host.Outcome State Fault Refusal :=
  match i with
  | .powerOnReset => Sys2Proof.Machine.execPowerOnReset s
  | .engineReset word => Sys2Proof.Machine.execEngineReset word s
  | .enable word => Sys2Proof.Machine.execEnable word s
  | .engineStop word => Sys2Proof.Machine.execEngineStop word s
  | .irqEnableWrite word => Sys2Proof.Machine.execIrqEnableWrite word s
  | .submitErrorClear word => Sys2Proof.Machine.execSubmitErrorClear word s
  | .ackErrorClear word => Sys2Proof.Machine.execAckErrorClear word s
  | .adminFaultClear word => Sys2Proof.Machine.execAdminFaultClear word s
  | .adminBaseWrite word => Sys2Proof.Machine.execAdminBaseWrite word s
  | .submit word => Sys2Proof.Machine.execSubmit word s
  | .eventAck word => Sys2Proof.Machine.execEventAck word s
  | .clearNotice word => Sys2Proof.Machine.execClearNotice word s
  | .registerWriteIgnored offset width word => Sys2Proof.Machine.execRegisterWriteIgnored offset width word s
  | .busGrant => Sys2Proof.Machine.execBusGrant s
  | .stoppingTransactionEnd client busError => Sys2Proof.Machine.execStoppingTransactionEnd client busError s
  | .adminReadError => Sys2Proof.Machine.execAdminReadError s
  | .unknownCommand command tag => Sys2Proof.Machine.execUnknownCommand command tag s
  | .nop tag => Sys2Proof.Machine.execNop tag s
  | .setEventQueue tag args => Sys2Proof.Machine.execSetEventQueue tag args s
  | .setRequestQueue tag args => Sys2Proof.Machine.execSetRequestQueue tag args s
  | .loadProfile tag slot address => Sys2Proof.Machine.execLoadProfile tag slot address s
  | .profileRecordReadEnd record => Sys2Proof.Machine.execProfileRecordReadEnd record s
  | .clearProfile tag slot => Sys2Proof.Machine.execClearProfile tag slot s
  | .loadFilter tag args => Sys2Proof.Machine.execLoadFilter tag args s
  | .setLane tag args => Sys2Proof.Machine.execSetLane tag args s
  | .abortLane tag lane scope => Sys2Proof.Machine.execAbortLane tag lane scope s
  | .resetLane tag lane => Sys2Proof.Machine.execResetLane tag lane s
  | .release tag lane holdTag => Sys2Proof.Machine.execRelease tag lane holdTag s
  | .postCaptureBuffer tag address => Sys2Proof.Machine.execPostCaptureBuffer tag address s
  | .readCounters tag args => Sys2Proof.Machine.execReadCounters tag args s
  | .counterBlockWriteEnd busError => Sys2Proof.Machine.execCounterBlockWriteEnd busError s
  | .pinEdge lane high => Sys2Proof.Machine.execPinEdge lane high s
  | .transitionConfirm lane => Sys2Proof.Machine.execTransitionConfirm lane s
  | .thresholdCrossing lane => Sys2Proof.Machine.execThresholdCrossing lane s
  | .captureWriteEnd lane busError => Sys2Proof.Machine.execCaptureWriteEnd lane busError s
  | .repeatWindowExpiry lane => Sys2Proof.Machine.execRepeatWindowExpiry lane s
  | .gateWindowExpiry lane => Sys2Proof.Machine.execGateWindowExpiry lane s
  | .echoGuardExpiry lane => Sys2Proof.Machine.execEchoGuardExpiry lane s
  | .requestEntryReadEnd lane entry => Sys2Proof.Machine.execRequestEntryReadEnd lane entry s
  | .requestReadError lane => Sys2Proof.Machine.execRequestReadError lane s
  | .activation lane => Sys2Proof.Machine.execActivation lane s
  | .pairListReadEnd lane pairs => Sys2Proof.Machine.execPairListReadEnd lane pairs s
  | .spacingTimerExpiry lane => Sys2Proof.Machine.execSpacingTimerExpiry lane s
  | .transmissionEnd lane => Sys2Proof.Machine.execTransmissionEnd lane s
  | .deferTimerExpiry lane => Sys2Proof.Machine.execDeferTimerExpiry lane s
  | .holdLimitExpiry lane => Sys2Proof.Machine.execHoldLimitExpiry lane s
  | .replyWindowExpiry lane => Sys2Proof.Machine.execReplyWindowExpiry lane s
  | .eventWriteEnd => Sys2Proof.Machine.execEventWriteEnd s
  | .eventWriteError => Sys2Proof.Machine.execEventWriteError s
  | .holdoffExpiry queue => Sys2Proof.Machine.execHoldoffExpiry queue s

end Sys2Proof.Machine
end

