-- ==== Sys2Proof/Safety.lean ====
section
/-! DEFINITION. What a safe state is, in the terms the claims use: the manual's promises about the whole part, each as one
property of State that every step should keep. -/

namespace Sys2Proof.Machine

/-! ## Outboxes and rings -/

/-- A lane's outbox holds at most 4 events (R62). -/
def OutboxesFit (s : State) : Prop := ∀ l : Lane, (s.lane l).outbox.events.length ≤ 4

/-- An event ring's unread count stays within its size, and a present ring's tail inside it, the size being one of R121. -/
def EventQueue.kept (q : EventQueue) : Prop :=
  q.unread ≤ q.size ∧
    (q.state ≠ .absent → q.tail < q.size ∧ q.size ∈ [16, 32, 64, 128, 256, 512, 1024])

/-- The event rings are kept, and the queue of the event write in flight is RUNNING with a free slot, so that no
unacknowledged entry is written over (R124, R126). -/
def EventRingsKept (s : State) : Prop :=
  (∀ q : EqId, (s.eq q).kept) ∧
    ∀ w q, s.writer.inFlight = some (w, q) → (s.eq q).state = .running ∧ (s.eq q).unread < (s.eq q).size

/-- The sizes of request rings and of the admin ring (R83, R138). -/
def requestSizes : List Nat := [4, 8, 16, 32, 64, 128, 256]

/-- The indices of every present request ring and of the admin ring lie inside it (R83, R138). -/
def RequestRingsKept (s : State) : Prop :=
  (∀ l : Lane, (s.lane l).queue.state ≠ .absent →
    (s.lane l).queue.head < (s.lane l).queue.size ∧ (s.lane l).queue.tail < (s.lane l).queue.size ∧
      (s.lane l).queue.size ∈ requestSizes) ∧
  ∀ q, s.admin.queue = some q → q.head < q.size ∧ q.tail < q.size ∧ q.size ∈ requestSizes

/-! ## Capture buffers -/

/-- An event that carries a capture buffer (R58). -/
def RxEvent.isCapture (ev : RxEvent) : Bool :=
  match ev.kind with
  | .capture => true
  | .frame => false
  | .notice => false

/-- How many posted buffers a lane holds: in its decoder, its capture writer, its outbox, and the event kept at a
RESET_LANE for its write (R59, R63, R155). -/
def LaneState.buffersHeld (x : LaneState) : Nat :=
  x.decoder.buffer.toList.length + x.capture.toList.length + x.outbox.events.countP RxEvent.isCapture +
    x.outbox.settling.toList.countP RxEvent.isCapture

/-- Every posted buffer is in one place, the list and the lanes together holding the held count, which is at most 16; a
lane's decoder takes no buffer while its capture writer holds one; and a lane is blind exactly when its decoder is
BLIND (R33, R59, R60). -/
def BuffersAccounted (s : State) : Prop :=
  s.captureList.length + ((allLanes.map fun l => (s.lane l).buffersHeld).sum) = s.heldCount ∧ s.heldCount ≤ 16 ∧
    ∀ l : Lane, ((s.lane l).decoder.buffer.isSome → (s.lane l).capture = none) ∧
      ((s.lane l).blind = true ↔ (s.lane l).decoder = .blind)

/-! ## Profile slots -/

/-- A slot in use is VALID, an armed one has a leader, and the slot a LOAD_PROFILE reads into is LOADING (R1, R2, R37). -/
def SlotsHeld (s : State) : Prop :=
  (∀ i : SlotId, s.inUse i = true → (s.slot i).isValid = true) ∧
  (∀ l : Lane, ∀ i ∈ (s.lane l).settings.armed, (s.profile i).leaderMark ≠ 0) ∧
  ∀ tag i, s.admin.state = .executing tag (.profileRead i) → s.slot i = .loading

/-! ## Engine states and lane settings -/

/-- Nothing waits in the bus port's slot: it is idle, or its transaction has already gone out (R175). -/
def BusSlot.notPending : BusSlot → Bool
  | .pending _ => false
  | .idle => true
  | .outstanding _ => true

/-- While the engine is not RUNNING every lane is as at an engine stop, the command unit STOPPED, every queue ABSENT, the
capture list empty, and no request waits at the bus port (R167, R169, R175). -/
def QuietUnlessRunning (s : State) : Prop :=
  s.engine ≠ .running →
    (∀ l : Lane, (s.lane l).stopped = s.lane l) ∧ s.admin = CommandUnit.reset ∧ s.captureList = [] ∧
      s.heldCount = 0 ∧ s.writer = EventWriter.reset ∧
      (∀ q : EqId, (s.eq q).state = .absent ∧ (s.eq q).unread = 0 ∧ (s.eq q).flag = false ∧
        (s.eq q).holdoffDue = none) ∧
      ∀ c : BusClient, (s.busSlot c).notPending = true

/-- Lane settings inside the ranges of R37. -/
def LaneSettings.inRange (x : LaneSettings) : Prop :=
  x.glitchWidth ≤ 255 ∧ x.echoGuard ≤ 65535 ∧ x.deferLimit ≤ 10000 ∧ 100 ≤ x.settleSilence ∧
    x.settleSilence ≤ 65535 ∧ x.armed.length ≤ 4 ∧ x.armed.Nodup ∧ 1 ≤ x.guardWindow ∧ x.guardWindow ≤ 60000

/-- Every lane's settings are inside their ranges (R37). -/
def SettingsInRange (s : State) : Prop := ∀ l : Lane, (s.lane l).settings.inRange

/-! ## The transmit sequencer -/

/-- The sequencer states in which an active request is being run (R84). -/
def SeqState.runs : SeqState → Bool
  | .listFetch | .gap | .defer | .sending | .holding | .ending | .listen => true
  | .idle | .fetch | .posting => false

/-- The sequencer states with a transmission on the line (R91, R103). -/
def SeqState.onLine : SeqState → Bool
  | .sending | .ending => true
  | .idle | .fetch | .listFetch | .gap | .defer | .holding | .listen | .posting => false

/-- A lane works on one request at a time: a completion waits exactly in POSTING, a transmission is on the line exactly
in SENDING and ENDING, an entry waits for activation only in FETCH, a request is active in every state that runs one and
in none that does not, only a RAW request reads a list, and ENDING has its end cause (R84, R90, R94, R99, R103). -/
def LaneState.oneRequest (x : LaneState) : Prop :=
  (x.seq.completion.isSome ↔ x.seq.state = .posting) ∧ (x.tx.isSome ↔ x.seq.state.onLine = true) ∧
    (x.seq.taken.isSome → x.seq.state = .fetch) ∧ (x.seq.state.runs = true → x.seq.active.isSome) ∧
    (x.seq.state = .idle ∨ x.seq.state = .fetch → x.seq.active = none) ∧
    (x.seq.state = .listFetch → ∀ r, x.seq.active = some r → r.kind = .raw) ∧
    (x.seq.state = .ending → ∀ r, x.seq.active = some r → r.endCause.isSome)

/-- The purpose of the transaction that the bus port holds, if it holds one. -/
def BusSlot.purpose : BusSlot → Option Purpose
  | .idle => none
  | .pending t => some t.purpose
  | .outstanding t => some t.purpose

/-- Every lane works on one request at a time, its entry reads and list reads belong to FETCH and LIST_FETCH while the
engine is RUNNING, its sequencer asks nothing of the bus port while an entry waits for its activation, and the event writer
serves a sequencer only in POSTING (R84, R85, R89, R94, R99). -/
def OneRequestEach (s : State) : Prop :=
  (∀ l : Lane, (s.lane l).oneRequest ∧ ((s.lane l).seq.taken.isSome → s.busSlot (.sequencer l) = .idle)) ∧
  (s.engine = .running → ∀ l : Lane,
    ((s.busSlot (.sequencer l)).purpose = some .requestEntry →
      (s.lane l).seq.state = .fetch ∧ (s.lane l).seq.taken = none) ∧
    ((s.busSlot (.sequencer l)).purpose = some (.pairList false) → (s.lane l).seq.state = .listFetch)) ∧
  ∀ l q, s.writer.inFlight = some (.sequencer l, q) → (s.lane l).seq.state = .posting

end Sys2Proof.Machine
end

