-- ==== Sys2Proof/Certificates/Slice0/Obligations.lean ====
section
/-! DEFINITION. The statements for the provers, from the manual's numbered rules. A statement about a command gives the
whole state after it as an update of the state before it, so that what the update does not name is unchanged; where a
command ends with the event writer's choice the update stands under `chooseEvent`, which `EventChoiceIsRoundRobin`
describes; that the one choice falls at the end of the command is the model's reading (log entry 9). -/

open Sys2Proof Sys2Proof.Machine

namespace Sys2Proof.Claims

/-! ## Words of the statements -/

/-- The moment at which an admin command is taken: its entry's read is outstanding while the engine is RUNNING, and `q`
is the admin queue (R140). -/
def EntryRead (s : State) (q : AdminQueue) : Prop :=
  s.engine = .running ∧ s.admin.queue = some q ∧
    ∃ t, s.busSlot .commandUnit = .outstanding t ∧ t.purpose = .adminEntry

/-- The state once the entry is taken: the read is over and the admin head has advanced by one, modulo size (R140 (1)).
-/
def taken (s : State) (q : AdminQueue) : State :=
  { s.setBus .commandUnit .idle with
    admin := { s.admin with queue := some { q with head := (q.head + 1) % q.size } } }

/-- A state with one ADMIN_DONE, made now, in the posting slot (R142). -/
def answered (s : State) (status : Code) (tag : Half) (profile : Byte) (detail : Nat) : State :=
  let done : AdminDone :=
    { status := status, tag := tag, profile := profile, detail := BitVec.ofNat 16 detail,
      timestamp := BitVec.ofNat 32 s.clock }
  { s with admin := { s.admin with state := .posting done } }

/-- The outstanding transaction of a client has this purpose while the engine is RUNNING. -/
def Outstanding (s : State) (c : BusClient) (p : Purpose) : Prop :=
  s.engine = .running ∧ ∃ t, s.busSlot c = .outstanding t ∧ t.purpose = p

/-- A client asks the bus port for a transaction: it is pending when the client's place is free (R173). While a
transaction whose result is no longer wanted still holds the place, the client waits for its end (R100; log entry 13).
-/
def asked (c : BusClient) (t : Transaction) (s : State) : State :=
  match s.busSlot c with
  | .idle => s.setBus c (.pending t)
  | _ => s

/-- The read of the request entry at the head: 64 bytes at base + 64 × head (R85). -/
def entryAtHead (q : RequestQueue) : Transaction :=
  { purpose := .requestEntry, address := q.base + 64 * BitVec.ofNat 32 q.head, length := 64, data := [] }

/-- The read of the admin entry at the head: 64 bytes at base + 64 × head (R140). -/
def adminAtHead (q : AdminQueue) : Transaction :=
  { purpose := .adminEntry, address := q.base + 64 * BitVec.ofNat 32 q.head, length := 64, data := [] }

/-- The write of a finished capture: four bytes per pair from the buffer's first byte (R58). -/
def captureWriteOf (c : FinishedCapture) : Transaction :=
  { purpose := .captureBuffer false, address := c.buffer, length := 4 * c.pairs.length, data := captureBytes c.pairs }

/-- Some transaction is outstanding. -/
def SomeOutstanding (s : State) : Prop := ∃ c t, s.busSlot c = .outstanding t

/-- A slot is armed on a lane or named by an active request (R2). -/
def InUse (s : State) (i : SlotId) : Prop :=
  ∃ l : Lane, i ∈ (s.lane l).settings.armed ∨
    ∃ r, (s.lane l).seq.active = some r ∧ i ∈ namedSlots r.kind r.entry

/-- The completion of a lane's request, made now (R98). -/
def completion (s : State) (l : Lane) (status : Code) (tag : Half) (profile : Byte) (count : Half) (detail : Byte) :
    Completion :=
  { target := (s.lane l).queue.completionQueue, status := status, tag := tag, profile := profile, count := count,
    detail := detail, bitCount := 0, payload := 0, timestamp := BitVec.ofNat 32 s.clock }

/-- A sequencer in POSTING with a completion, every wait of the request over (R99). -/
def posting (q : Sequencer) (c : Completion) : Sequencer :=
  { q with state := .posting, taken := none, completion := some c, spacingDue := none, deferDue := none,
           limitDue := none, replyDue := none }

/-- Nothing but lane `l` and the capture list differs, and at the bus port nothing but what it holds for the lane's
sequencer. -/
def OnlyLaneAndBuffers (l : Lane) (s t : State) : Prop :=
  t = { s with lanes := t.lanes, captureList := t.captureList, bus := t.bus } ∧
    (∀ l' : Lane, l' ≠ l → t.lane l' = s.lane l') ∧ t.bus.pointer = s.bus.pointer ∧
    ∀ c, c ≠ .sequencer l → t.busSlot c = s.busSlot c

/-- A frame in error: FRAMES_BAD moves, and with report_errors on a FRAME event with what was decoded is made (R50). -/
def frameInError (l : Lane) (status : Code) (i : SlotId) (start : Moment) (part : PartialFrame) (s : State) : State :=
  let counted := bump l .framesBad s
  if (s.lane l).settings.reportErrors = true then
    enterOutbox l
      { kind := .frame, status := status, target := (s.lane l).settings.defaultEq, profile := i,
        bitCount := part.count, payload := part.payload, phase := .single, wake := false, repeatCount := 0, tag := 0,
        aux := 0, timestamp := BitVec.ofNat 32 start, lost := 0 } counted
  else counted

/-- A press that closes now, with the END it owes while it is DELIVERING (R72). -/
def closed (l : Lane) (p : Press) (s : State) : State :=
  let ended :=
    if p.endOwed = true ∧ p.delivering = true then
      makeFrame l
        { kind := .frame, status := .ok, target := p.target, profile := p.profile, bitCount := p.bitCount,
          payload := p.payload, phase := .end_, wake := false, repeatCount := p.repeatCount, tag := p.tag,
          aux := p.heldDuration, timestamp := BitVec.ofNat 32 s.clock, lost := 0 } s
    else s
  ended.setLane l { ended.lane l with press := none }

/-- The latest entry into HUNT of a decoder whose line-busy sense is false (R34). -/
def sense : Decoder → Option Moment
  | .hunt since => some since
  | _ => none

/-- A happening that time brings about is due: the timer it names runs and its moment has come, the transmission on the
line has ended, the pending excursion has held for glitch_width, or the running interval has reached a threshold that no
pending excursion holds back and that has not been reported (R25, R27, R28, R31). No other command is such a happening.
-/
def Due (s : State) : Instr → Prop
  | .transmissionEnd l => ∃ t, (s.lane l).tx = some t ∧ t.endsAt ≤ s.clock
  | .echoGuardExpiry l => ∃ due, (s.lane l).echoDue = some due ∧ due ≤ s.clock
  | .transitionConfirm l =>
      ∃ f e, (s.lane l).filter = some f ∧ f.excursion = some e ∧ e + (s.lane l).settings.glitchWidth ≤ s.clock
  | .thresholdCrossing l =>
      ∃ f n, (s.lane l).filter = some f ∧ f.excursion = none ∧ s.namedThreshold l f.mark = some n ∧
        f.firstEdge + n ≤ s.clock ∧ ¬ (f.mark = true ∧ f.stuckReported = true)
  | .repeatWindowExpiry l => ∃ p, (s.lane l).press = some p ∧ p.windowDue ≤ s.clock
  | .gateWindowExpiry l => ∃ due, (s.lane l).gateDue = some due ∧ due ≤ s.clock
  | .holdLimitExpiry l => ∃ due, (s.lane l).seq.limitDue = some due ∧ due ≤ s.clock
  | .replyWindowExpiry l => ∃ due, (s.lane l).seq.replyDue = some due ∧ due ≤ s.clock
  | .deferTimerExpiry l => ∃ due, (s.lane l).seq.deferDue = some due ∧ due ≤ s.clock
  | .spacingTimerExpiry l => ∃ due, (s.lane l).seq.spacingDue = some due ∧ due ≤ s.clock
  | .holdoffExpiry q => ∃ due, (s.eq q).holdoffDue = some due ∧ due ≤ s.clock
  | _ => False

/-- What the bus port holds for a lane's sequencer once its pair list read is no longer wanted (R94, R100). -/
def listUnwanted : BusSlot → BusSlot
  | .idle => .idle
  | .pending t => .pending (if t.purpose = .pairList false then { t with purpose := .pairList true } else t)
  | .outstanding t => .outstanding (if t.purpose = .pairList false then { t with purpose := .pairList true } else t)

/-- What the bus port holds for a capture writer whose write is no longer wanted: the write goes on and its result will
be disregarded (R58, R154; one not yet started too, log entry 13). -/
def captureUnwanted : BusSlot → BusSlot
  | .idle => .idle
  | .pending t => .pending { t with purpose := .captureBuffer true }
  | .outstanding t => .outstanding { t with purpose := .captureBuffer true }

/-- The next transmission of a request, started now: its line form by the request's kind, with the carrier of its
profile; on a SHARED lane the blind condition is raised, a decoder's work is abandoned and, when there was any, counted
as a collision. A forced start counts a collision whatever the decoder does (R28, R32, R35, R91, R92, R95, R104, R112).
An unforced first transmission notes the entry into HUNT it met (the model's own field, log entry 30). -/
def onAir (l : Lane) (r : ActiveRequest) (forced : Bool) (s : State) : State :=
  let x := s.lane l
  let p := s.requestProfile r.entry
  let frame := frameForm p r.entry.payload r.entry.bitCount.toNat
  let form := match r.kind with
    | .raw => rawForm r.pairs
    | .exchange => frame
    | .send => if r.started = 0 ∨ r.entry.repeatForm.toNat ≠ 1 then frame else repeatForm p
    | .hold => if r.started = 0 ∨ p.repeatMark = 0 then frame else repeatForm p
  let raises := x.settings.mode = .shared ∧ x.blind = false
  let counted := if forced = true ∨ raises ∧ x.decoder.collecting = true then bump l .collisions s else s
  { counted.setLane l
      { counted.lane l with
        tx :=
          some { start := s.clock, intervals := form, carrierHigh := p.carrierHigh, carrierLow := p.carrierLow,
                 metHunt := if forced = false ∧ r.started = 0 ∧ x.settings.mode = .shared then sense x.decoder else none },
        blind := x.blind || x.settings.mode == .shared,
        echoDue := if x.settings.mode = .shared then none else x.echoDue,
        decoder := if raises then .blind else x.decoder,
        seq :=
          { x.seq with
            state := .sending, spacingDue := none, deferDue := none,
            limitDue := if r.kind = .hold ∧ r.firstStart = none then
              some (s.clock + r.entry.holdLimit.toNat * 1000) else x.seq.limitDue,
            active :=
              some { r with
                started := BitVec.ofNat 16 (min (r.started.toNat + 1) 65535), lastStart := s.clock,
                firstStart := some (r.firstStart.getD s.clock) } } } with
    captureList := s.captureList ++ if raises then x.decoder.buffer.toList else [] }

/-- The decoder enters HUNT now, and a sequencer that waits in DEFER starts its transmission (R34, R96). -/
def hunting (l : Lane) (s : State) : State :=
  let entered := s.setLane l { s.lane l with decoder := .hunt s.clock }
  match (s.lane l).seq.state, (s.lane l).seq.active with
  | .defer, some r => onAir l r false entered
  | _, _ => entered

/-- A mark left HUNT together with a first transmission's start and is abandoned: one collision is counted (R34). -/
def overrun (l : Lane) (s : State) : State :=
  bump l .collisions
    (s.setLane l { s.lane l with tx := (s.lane l).tx.map fun t => { t with metHunt := none } })

/-- What an unclassified burst's claim for a capture buffer comes to: the oldest buffer of the list, or CAPTURE_DROPS
without one, or NOISE with the capture setting off (R41, R43, R60). -/
def Claimed (l : Lane) (s : State) (b : Option Word) (u : State) : Prop :=
  let x := s.lane l
  (x.settings.capture = true ∧ x.capture = none ∧
    ∃ w rest, s.captureList = w :: rest ∧ b = some w ∧ u = { s with captureList := rest }) ∨
  (x.settings.capture = true ∧ (s.captureList = [] ∨ x.capture.isSome) ∧ b = none ∧ u = bump l .captureDrops s) ∨
  (x.settings.capture = false ∧ b = none ∧ u = bump l .noise s)

/-- A capture that ends passes to the lane's capture writer, which asks for its write (R57, R58), or waits while a write
that RESET_LANE discarded still holds its place at the bus port (log entry 13). -/
def passed (l : Lane) (w : Word) (start : Moment) (status : Code) (pairs : List CapturePair) (s : State) : State :=
  let c : FinishedCapture := { buffer := w, start := start, status := status, pairs := pairs }
  asked (.captureWriter l) (captureWriteOf c) (s.setLane l { s.lane l with capture := some c })

/-- An unclassified burst whose space reached settle silence: with a buffer its one pair is a capture (R43 (2)). -/
def single (l : Lane) (b : Option Word) (start : Moment) (m : Nat) (s : State) : State :=
  match b with
  | some w => passed l w start .ok [⟨m, (s.lane l).settings.settleSilence⟩] s
  | none => s

/-- The measured interval lies in the tolerance window of a nominal under a scale of 256ths (R13, R15). -/
def fits (p : Profile) (scale d nominal : Nat) : Bool :=
  let n := nominal * scale / 256
  decide (n - n * p.tolerance / 100 ≤ d ∧ d ≤ n + n * p.tolerance / 100)

/-- The number of the first field, in the order given, whose condition fails; none when every condition holds. -/
def FirstOut : List (Nat × Prop) → Option Nat → Prop
  | [], out => out = none
  | (n, inRange) :: rest, out => (inRange → FirstOut rest out) ∧ (¬ inRange → out = some n)

/-- What the intervals of a line form, sent at their nominal lengths, do to a decoder's partial frame (R44 to R47). -/
def heard (p : Profile) : List Interval → PartialFrame → SymbolResult
  | [], part => .ok part
  | x :: rest, part =>
      match symbol p 256 x.length x.mark part with
      | .ok next => heard p rest next
      | .broken last => .broken last
      | .long last => .long last

/-- The excursion of a filter, begun at `e`, is confirmed: its level is the confirmed one with `e` as its first edge,
and the decoder takes the transition, with the length of the interval it ends where that interval is handed (R25, R26).
-/
def transition (l : Lane) (f : InputFilter) (e : Moment) (s : State) : State :=
  let x := s.lane l
  takeTransition l (!f.mark) e (if f.handed = true ∧ x.blind = false then some (e - f.firstEdge) else none)
    (s.setLane l
      { x with
        filter :=
          some { mark := !f.mark, firstEdge := e, handed := decide (x.blind = false ∧ ∀ w ∈ f.unblinded, w < e),
                 stuckReported := false, unblinded := f.unblinded, excursion := none } })

/-- The level of a line form `d` µs after its beginning, a mark being true; after its end the line is idle (R28). -/
def markAt : List Machine.Interval → Nat → Bool
  | [], _ => false
  | x :: rest, d => if d < x.length then x.mark else markAt rest (d - x.length)

/-- A lane mode in which the input side runs (R22). -/
def receiving (m : LaneMode) : Bool := m == .rxOnly || m == .shared || m == .split

end Sys2Proof.Claims

open Sys2Proof.Claims

/-! ## Steps and reset -/

/-- A step with a command in the queue takes the one at the front and is that command's effect on the state with the
queue's rest (the model's queue of commands, log entry 1). -/
def Obligations.StepRunsFrontCommand : Prop :=
  ∀ (c : Instr) (rest : List Instr) (s : State), s.pending = c :: rest → step s = exec c { s with pending := rest }

/-- On an empty queue a step takes a happening that time has brought due, and it is due indeed; when none is due, no
timer of any lane or event queue has run out, no transmission has ended, no excursion has held for glitch_width, no
threshold crossing is to be reported, and the time base moves on by 1 µs while the engine is RUNNING (the model's
choice, log entry 1). -/
def Obligations.IdleStepIsTime : Prop :=
  ∀ s : State, s.pending = [] →
    (∀ c, s.dueHappening = some c → Due s c ∧ step s = exec c s) ∧
    (s.dueHappening = none →
      step s = .next { s with clock := if s.engine = .running then s.clock + 1 else s.clock } ∧ ∀ c, ¬ Due s c)

/-- Every command of the part completes, whatever the state, and no command touches the queue of commands (the part has
no fault and no refusal: a bus error, a full ring and a stuck line are effects). The queue, what a command does when its
happening is not there, and what a reset keeps are the model's choices (log entries 1, 2 and 20). -/
def Obligations.CommandsCompleteAndKeepQueue : Prop :=
  ∀ (c : Instr) (s : State), ∃ t, exec c s = .next t ∧ t.pending = s.pending

/-- What reset leaves, where the manual states it: the engine and its registers, the store and the match table, every
lane, the capture list, the event queues and the bus port. The input pin's level is the model's choice (log entry 8). -/
def Obligations.ResetContents : Prop :=
  State.reset.engine = .off ∧ State.reset.control = 0 ∧ State.reset.status = 0 ∧ State.reset.adminBase = 0 ∧
  State.reset.timeBase = 0 ∧ State.reset.interrupt = false ∧
  State.reset.admin = { state := .stopped, queue := none } ∧
  (∀ i : SlotId, State.reset.slot i = .invalid) ∧
  (∀ i : EntryId, State.reset.entry i = { filter := none, hits := 0 }) ∧
  (∀ l : Lane,
    (State.reset.lane l).settings =
      { mode := .disabled, inputHigh := true, outputHigh := true, glitchWidth := 0, echoGuard := 0, deferLimit := 0,
        settleSilence := 100, armed := [], reportErrors := false, capture := false, defaultDeliver := false,
        defaultEq := 0, guarded := false, guardWindow := 1000 } ∧
    (∀ c : LaneCounter, (State.reset.lane l).counter c = 0) ∧
    (State.reset.lane l).decoder = .off ∧ (State.reset.lane l).blind = false ∧ (State.reset.lane l).press = none ∧
    (State.reset.lane l).gateOpen = false ∧
    (State.reset.lane l).outbox = { events := [], lost := 0, settling := none } ∧
    (State.reset.lane l).capture = none ∧ (State.reset.lane l).queue.state = .absent ∧
    (State.reset.lane l).seq.state = .idle ∧ (State.reset.lane l).seq.lineFree = none ∧
    (∀ sub : Nat, State.reset.outputPin l sub = false)) ∧
  State.reset.captureList = [] ∧ State.reset.heldCount = 0 ∧
  (∀ q : EqId,
    (State.reset.eq q).state = .absent ∧ (State.reset.eq q).tail = 0 ∧ (State.reset.eq q).phase = true ∧
    (State.reset.eq q).unread = 0 ∧ (State.reset.eq q).mode = .off ∧ (State.reset.eq q).flag = false ∧
    (State.reset.eq q).holdoffDue = none ∧ (State.reset.eq q).fault = false) ∧
  State.reset.writer = { pointer := 0, inFlight := none } ∧
  (∀ c : BusClient, State.reset.busSlot c = .idle) ∧ State.reset.bus.pointer = 0

/-- The machine right after reset meets every invariant stated below. -/
def Obligations.ResetMeetsInvariants : Prop :=
  OutboxesFit State.reset ∧ EventRingsKept State.reset ∧ RequestRingsKept State.reset ∧
  BuffersAccounted State.reset ∧ SlotsHeld State.reset ∧ QuietUnlessRunning State.reset ∧
  SettingsInRange State.reset ∧ OneRequestEach State.reset

/-! ## Register window and engine -/

/-- An engine reset, a write of RESET 1 in any engine state, sets every block to its reset values and drops every
pending bus request; the engine is then STOPPING while a transaction is outstanding and otherwise OFF. A power-on reset
does the same with nothing outstanding. Pin levels come from outside and stay (log entry 20). -/
def Obligations.EngineResetSetsEveryBlock : Prop :=
  ∀ (word : Word) (s : State),
    let after : State :=
      { State.reset with
        engine := .stopping
        lanes := Vector.ofFn fun l : Lane => { LaneState.reset with pinHigh := (s.lane l).pinHigh }
        bus := { slots := Vector.ofFn fun c : Fin 10 => s.bus.slots[c.val].dropPending, pointer := 0 }
        freeIndex := s.freeIndex, pending := s.pending }
    (word.getLsbD 1 = true → SomeOutstanding s → exec (.engineReset word) s = .next after) ∧
    (word.getLsbD 1 = true → ¬ SomeOutstanding s →
      exec (.engineReset word) s = .next { after with engine := .off }) ∧
    exec .powerOnReset s = .next { after with engine := .off, bus := BusPort.reset }

/-- A write of ENABLE 1 in OFF. With an ADMIN_BASE whose base is a multiple of 64 and whose size code is at most 6 the
engine enters RUNNING with everything R168 (2) names; otherwise it stays OFF and ADMIN_FAULT is set. IRQ_ENABLE takes
the written value. -/
def Obligations.EnableEntersRunningOrFaults : Prop :=
  ∀ (word : Word) (s : State), word.getLsbD 0 = true → word.getLsbD 1 = false → s.engine = .off →
    (s.adminBase.toNat / 16 % 4 = 0 ∧ s.adminBase.toNat % 16 ≤ 6 →
      exec (.enable word) s = .next
        { s with
          engine := .running, irqEnable := word.getLsbD 2, clock := 0, adminFault := false
          admin :=
            { state := .idle
              queue := some
                { base := BitVec.ofNat 32 (s.adminBase.toNat / 16 * 16), size := 4 * 2 ^ (s.adminBase.toNat % 16),
                  head := 0, tail := 0 } }
          lanes := Vector.ofFn fun l : Lane =>
            let x := s.lane l
            { LaneState.reset with
              settings := x.settings, counters := x.counters, pinHigh := x.pinHigh
              filter :=
                if receiving x.settings.mode then
                  some { mark := x.pinHigh == x.settings.inputHigh, firstEdge := 0, handed := false,
                         stuckReported := false, unblinded := none, excursion := none }
                else none
              decoder := if receiving x.settings.mode then .hunt 0 else .off }
          captureList := [], heldCount := 0
          eqs := Vector.ofFn fun q : EqId =>
            { s.eq q with state := .absent, unread := 0, flag := false, holdoffDue := none }
          writer := { pointer := 0, inFlight := none }
          bus := { slots := Vector.replicate 10 .idle, pointer := 0 } }) ∧
    (¬ (s.adminBase.toNat / 16 % 4 = 0 ∧ s.adminBase.toNat % 16 ≤ 6) →
      exec (.enable word) s = .next { s with irqEnable := word.getLsbD 2, adminFault := true })

/-- A write of ENABLE 0 in RUNNING is an engine stop: every block drops its work as R169's table states, profiles, match
entries, settings, counters and pins stay, and the engine is STOPPING while a transaction is outstanding, and otherwise
OFF with ADMIN_FAULT and the fault bits cleared. -/
def Obligations.EngineStopDiscardsWork : Prop :=
  ∀ (word : Word) (s : State), word.getLsbD 0 = false → word.getLsbD 1 = false → s.engine = .running →
    let after : State :=
      { s with
        engine := .stopping, irqEnable := word.getLsbD 2
        admin := { state := .stopped, queue := none }
        slots := Vector.ofFn fun i : SlotId => if s.slot i = .loading then .invalid else s.slot i
        lanes := Vector.ofFn fun l : Lane =>
          { LaneState.reset with
            settings := (s.lane l).settings, counters := (s.lane l).counters, pinHigh := (s.lane l).pinHigh }
        captureList := [], heldCount := 0
        eqs := Vector.ofFn fun q : EqId =>
          { s.eq q with state := .absent, unread := 0, flag := false, holdoffDue := none }
        writer := { pointer := 0, inFlight := none }
        bus := { s.bus with slots := Vector.ofFn fun c : Fin 10 => s.bus.slots[c.val].dropPending } }
    (SomeOutstanding s → exec (.engineStop word) s = .next after) ∧
    (¬ SomeOutstanding s →
      exec (.engineStop word) s = .next
        { after with
          engine := .off, adminFault := false
          eqs := Vector.ofFn fun q : EqId =>
            { s.eq q with state := .absent, unread := 0, flag := false, holdoffDue := none, fault := false } })

/-- A CONTROL write with RESET 0 gives IRQ_ENABLE the written value, and nothing else changes in STOPPING, in OFF with
ENABLE 0 and in RUNNING with ENABLE 1. A STATUS write clears SUBMIT_ERROR and ACK_ERROR where it carries 1, and
ADMIN_FAULT where it carries 1 while the engine is OFF; a 0 leaves a bit as it stands and nothing else changes. A write
to ADMIN_BASE is kept, unchecked, while the engine is OFF, and disregarded while it is RUNNING or STOPPING; a read
returns the value last written. That the four rows of CONTROL are one and the same write, and the three of STATUS, is
the model's choice (log entry 5). -/
def Obligations.ControlStatusAndAdminBaseWrites : Prop :=
  ∀ (word : Word) (s : State),
    let cleared : State :=
      { s with
        submitError := if word.getLsbD 3 then false else s.submitError
        ackError := if word.getLsbD 4 then false else s.ackError
        adminFault := if word.getLsbD 2 = true ∧ s.engine = .off then false else s.adminFault }
    exec (.engineReset word) s = exec (.irqEnableWrite word) s ∧
    exec (.enable word) s = exec (.irqEnableWrite word) s ∧
    exec (.engineStop word) s = exec (.irqEnableWrite word) s ∧
    (word.getLsbD 1 = false →
      s.engine = .stopping ∨ s.engine = .off ∧ word.getLsbD 0 = false ∨ s.engine = .running ∧ word.getLsbD 0 = true →
      exec (.irqEnableWrite word) s = .next { s with irqEnable := word.getLsbD 2 }) ∧
    exec (.submitErrorClear word) s = .next cleared ∧ exec (.ackErrorClear word) s = .next cleared ∧
    exec (.adminFaultClear word) s = .next cleared ∧
    (s.engine = .off → exec (.adminBaseWrite word) s = .next { s with adminBase := word }) ∧
    (s.engine ≠ .off → exec (.adminBaseWrite word) s = .next s) ∧ s.register 0x0C = s.adminBase

/-- A SUBMIT notice, its queue id in bits 0 to 2 and its tail in bits 16 to 23, is judged by R165's table. Refused, it
sets SUBMIT_ERROR and changes nothing else. Accepted for a request queue it sets the tail, and an IDLE sequencer of a
lane that is not DISABLED begins to read a RUNNING queue whose head differs from the new tail. Accepted for the admin
queue it sets the tail, and an IDLE command unit begins to read when the head differs from it. In every other state only
the tail moves: that this holds in FETCH too before the read is in flight, the tail moved back to the head calling no
read off, is the model's choice (log entry 34). A sequencer that begins to read while a discarded pair list read holds
its place at the bus port waits for its end (R100; log entry 13). -/
def Obligations.SubmitNoticeJudged : Prop :=
  ∀ (word : Word) (s : State),
    let id := word.toNat % 8
    let tail := word.toNat / 65536 % 256
    let refused : State := { s with submitError := true }
    (5 ≤ id → exec (.submit word) s = .next refused) ∧
    (∀ l : Lane, id = l.val →
      let x := s.lane l
      let set : LaneState := { x with queue := { x.queue with tail := tail } }
      (x.queue.state = .absent ∨ x.queue.size ≤ tail → exec (.submit word) s = .next refused) ∧
      (x.queue.state ≠ .absent ∧ tail < x.queue.size →
        (x.seq.state = .idle ∧ x.queue.state = .running ∧ x.queue.head ≠ tail ∧ x.settings.mode ≠ .disabled →
          exec (.submit word) s = .next
            (asked (.sequencer l) (entryAtHead x.queue)
              (s.setLane l { set with seq := { x.seq with state := .fetch } }))) ∧
        (¬ (x.seq.state = .idle ∧ x.queue.state = .running ∧ x.queue.head ≠ tail ∧ x.settings.mode ≠ .disabled) →
          exec (.submit word) s = .next (s.setLane l set)))) ∧
    (id = 4 →
      (s.admin.queue = none → exec (.submit word) s = .next refused) ∧
      ∀ q, s.admin.queue = some q →
        (q.size ≤ tail → exec (.submit word) s = .next refused) ∧
        (tail < q.size →
          (s.admin.state = .idle ∧ q.head ≠ tail →
            exec (.submit word) s = .next
              (asked .commandUnit (adminAtHead q)
                { s with admin := { state := .fetch, queue := some { q with tail := tail } } })) ∧
          (¬ (s.admin.state = .idle ∧ q.head ≠ tail) →
            exec (.submit word) s = .next { s with admin := { s.admin with queue := some { q with tail := tail } } })))

/-- An EVENT_ACK, its queue id in bits 0 to 2, its new head in bits 16 to 25 and clear-notice in bit 31. (That EVENT_ACK
and CLEAR_NOTICE are one write, sent as either row, is the model's choice, log entry 5.) It is accepted for a RUNNING or
FAULTED queue when the new head is below size and the entries from the present head to it number at most unread; unread
then falls by that number and moderation acts (`ModerationRules`). Otherwise ACK_ERROR is set and nothing else changes.
-/
def Obligations.EventAckJudged : Prop :=
  ∀ (word : Word) (s : State),
    let id := word.toNat % 8
    let newHead := word.toNat / 65536 % 1024
    let refused : State := { s with ackError := true }
    exec (.clearNotice word) s = exec (.eventAck word) s ∧
    (4 ≤ id → exec (.eventAck word) s = .next refused) ∧
    ∀ q : EqId, id = q.val →
      let e := s.eq q
      let d := (newHead + e.size + e.unread - e.tail) % e.size
      (e.state = .absent → exec (.eventAck word) s = .next refused) ∧
      (e.state ≠ .absent → e.kept →
        (newHead < e.size ∧ d ≤ e.unread →
          exec (.eventAck word) s = .next
            (chooseEvent
              (s.setEq q (moderateAck { e with unread := e.unread - d } (decide (2 ^ 31 ≤ word.toNat)) s.clock)))) ∧
        (¬ (newHead < e.size ∧ d ≤ e.unread) → exec (.eventAck word) s = .next refused))

/-- A host write acts as the row it decodes to says: a whole aligned word reaches the register at its offset, and every
other write of 1 to 4 bytes (partial, misaligned, beyond 0x17, or to IDENT or TIME) is disregarded. -/
def Obligations.HostWritesReachRegisters : Prop :=
  ∀ (offset width : Nat) (word : Word) (s : State), 1 ≤ width → width ≤ 4 →
    (width ≠ 4 ∨ offset % 4 ≠ 0 ∨ offset = 0 ∨ 0x18 ≤ offset →
      decodeHostWrite offset width word = .registerWriteIgnored offset width word ∧
      exec (.registerWriteIgnored offset width word) s = .next s) ∧
    (width = 4 → offset = 0x04 →
      exec (decodeHostWrite offset width word) s = exec (.irqEnableWrite word) s) ∧
    (width = 4 → offset = 0x08 →
      exec (decodeHostWrite offset width word) s = exec (.adminFaultClear word) s) ∧
    (width = 4 → offset = 0x0C → decodeHostWrite offset width word = .adminBaseWrite word) ∧
    (width = 4 → offset = 0x10 → decodeHostWrite offset width word = .submit word) ∧
    (width = 4 → offset = 0x14 → exec (decodeHostWrite offset width word) s = exec (.eventAck word) s)

/-- What a host read returns. An aligned 32-bit read of each register gives its fields at their bits; reads beyond 0x1B
and 32-bit reads at an offset that is not a multiple of 4 give 0; a read of 1 to 3 bytes within the window gives the
bytes of the registers it covers. -/
def Obligations.RegisterReadLayout : Prop :=
  ∀ s : State,
    let one (b : Bool) : Nat := if b then 1 else 0
    let state : Nat := match s.engine with
      | .off => 0
      | .running => 1
      | .stopping => 2
    (s.register 0x00).toNat = 0x040105A3 ∧
    (s.register 0x04).toNat = one (s.engine == .running) + 4 * one s.irqEnable ∧
    (s.register 0x08).toNat =
      state + 4 * one s.adminFault + 8 * one s.submitError + 16 * one s.ackError +
        256 * one (s.eq 0).flag + 512 * one (s.eq 1).flag + 1024 * one (s.eq 2).flag + 2048 * one (s.eq 3).flag +
        4096 * one (s.eq 0).fault + 8192 * one (s.eq 1).fault + 16384 * one (s.eq 2).fault +
        32768 * one (s.eq 3).fault ∧
    s.register 0x0C = s.adminBase ∧ s.register 0x10 = 0 ∧ s.register 0x14 = 0 ∧
    (s.register 0x18).toNat = s.clock % 2 ^ 32 ∧
    (∀ offset, offset % 4 = 0 → offset ≤ 0x18 → s.readBytes offset 4 = wordBytes (s.register offset)) ∧
    (∀ offset width, 0x1C ≤ offset → s.readBytes offset width = List.replicate width 0) ∧
    (∀ offset, offset % 4 ≠ 0 → s.readBytes offset 4 = [0, 0, 0, 0]) ∧
    (∀ offset width i, i < width → width ≤ 3 → offset + width ≤ 0x1C →
      (s.readBytes offset width)[i]? = (wordBytes (s.register ((offset + i) / 4 * 4)))[(offset + i) % 4]?)

/-- The interrupt output is asserted exactly while the interrupt enable is set and a request flag, a fault bit,
ADMIN_FAULT, SUBMIT_ERROR or ACK_ERROR is set. It is deasserted after an engine reset and after power-on reset, and an
engine stop changes the interrupt enable only as the write itself does. -/
def Obligations.InterruptFollowsItsSources : Prop :=
  ∀ s : State,
    (s.interrupt = true ↔
      s.irqEnable = true ∧
        ((∃ q : EqId, (s.eq q).flag = true) ∨ (∃ q : EqId, (s.eq q).fault = true) ∨ s.adminFault = true ∨
          s.submitError = true ∨ s.ackError = true)) ∧
    (∀ t, exec .powerOnReset s = .next t → t.interrupt = false) ∧
    (∀ word t, word.getLsbD 1 = true → exec (.engineReset word) s = .next t → t.interrupt = false) ∧
    (stopEngine s).irqEnable = s.irqEnable ∧ (∀ q : EqId, ((stopEngine s).eq q).flag = false) ∧
    ((stopEngine s).engine ≠ .off →
      (stopEngine s).adminFault = s.adminFault ∧ ∀ q : EqId, ((stopEngine s).eq q).fault = (s.eq q).fault)

/-! ## Bus port -/

/-- While the engine is RUNNING a grant starts the pending request of the first client from the pointer onward in ring
order, and the pointer then stands just past it; without a pending request, or while the engine is not RUNNING, nothing
starts. In STOPPING a transaction that ends, with or without a bus error, frees its client's place and does nothing
else, until the last one ends: the engine then enters OFF, with ADMIN_FAULT and the four fault bits cleared. -/
def Obligations.BusPortStartsAndEnds : Prop :=
  ∀ s : State,
    (∀ (i : Fin 10) (t : Transaction), s.engine = .running → s.bus.slots[i.val] = .pending t →
      (∀ j : Fin 10, (j - s.bus.pointer).val < (i - s.bus.pointer).val → ∀ u, s.bus.slots[j.val] ≠ .pending u) →
      exec .busGrant s = .next
        { s with bus := { slots := s.bus.slots.set i.val (.outstanding t), pointer := i + 1 } }) ∧
    ((s.engine ≠ .running ∨ ∀ (j : Fin 10) u, s.bus.slots[j.val] ≠ .pending u) → exec .busGrant s = .next s) ∧
    ∀ (c : BusClient) (busError : Bool) (t : Transaction), s.engine = .stopping → s.busSlot c = .outstanding t →
      let others := ∃ c' u, c' ≠ c ∧ s.busSlot c' = .outstanding u
      (others → exec (.stoppingTransactionEnd c busError) s = .next (s.setBus c .idle)) ∧
      (¬ others →
        exec (.stoppingTransactionEnd c busError) s = .next
          { s.setBus c .idle with
            engine := .off, adminFault := false
            eqs := Vector.ofFn fun q : EqId => { s.eq q with fault := false } })

/-! ## Admin commands -/

/-- NOP ends OK with detail 0 at its taking, and changes nothing else. -/
def Obligations.NopAnswersOk : Prop :=
  ∀ (tag : Half) (s : State) (q : AdminQueue), EntryRead s q →
    exec (.nop tag) s = .next (chooseEvent (answered (taken s q) .ok tag 0 0))

/-- An admin entry read that ends with a bus error takes no command and leaves the head: ADMIN_FAULT is set and the
command unit is HALTED. A taken entry whose command field names none of the twelve commands ends UNKNOWN_KIND with
detail 0. For each of the twelve, the first field out of range, in field-number order, ends the command FIELD_RANGE with
its number as detail. Neither touches any block. Which field number each list of checks answers is `FieldRanges`. -/
def Obligations.AdminEntryReadEnds : Prop :=
  ∀ (s : State) (q : AdminQueue) (tag : Half) (n : Nat), EntryRead s q →
    let refused : Host.Outcome State Fault Refusal :=
      .next (chooseEvent (answered (taken s q) .fieldRange tag 0 n))
    exec .adminReadError s = .next
      { s.setBus .commandUnit .idle with adminFault := true, admin := { s.admin with state := .halted } } ∧
    (∀ command : Byte, command.toNat = 0 ∨ 13 ≤ command.toNat →
      exec (.unknownCommand command tag) s = .next (chooseEvent (answered (taken s q) .unknownKind tag 0 0))) ∧
    (∀ a, firstBad (eventQueueChecks a) = some n → exec (.setEventQueue tag a) s = refused) ∧
    (∀ a, firstBad (requestQueueChecks a) = some n → exec (.setRequestQueue tag a) s = refused) ∧
    (∀ slot address, firstBad (loadProfileChecks slot address) = some n →
      exec (.loadProfile tag slot address) s = refused) ∧
    (∀ slot, firstBad (clearProfileChecks slot) = some n → exec (.clearProfile tag slot) s = refused) ∧
    (∀ a, firstBad (filterChecks a) = some n → exec (.loadFilter tag a) s = refused) ∧
    (∀ a, firstBad (laneChecks a) = some n → exec (.setLane tag a) s = refused) ∧
    (∀ lane scope, firstBad (abortChecks lane scope) = some n → exec (.abortLane tag lane scope) s = refused) ∧
    (∀ lane, firstBad (laneOnlyChecks lane) = some n → exec (.resetLane tag lane) s = refused) ∧
    (∀ lane holdTag, firstBad (laneOnlyChecks lane) = some n → exec (.release tag lane holdTag) s = refused) ∧
    (∀ address, firstBad (captureBufferChecks address) = some n →
      exec (.postCaptureBuffer tag address) s = refused) ∧
    (∀ a, firstBad (counterChecks a) = some n → exec (.readCounters tag a) s = refused)

/-- The setting ranges of the fields of admin commands and request entries, as their tables give them, and the number a
refusal carries: a list of checks answers the number of the first field, in field-number order, that is used and out of
its range, and none when every used field is in its range. -/
def Obligations.FieldRanges : Prop :=
  (∀ a : EventQueueArgs,
    let deletes := a.size.toNat = 0
    FirstOut
      [(3, a.queue.toNat ≤ 3), (4, deletes ∨ a.base.toNat % 64 = 0),
        (5, deletes ∧ a.queue.toNat ≠ 0 ∨ a.size.toNat ∈ [16, 32, 64, 128, 256, 512, 1024]),
        (6, deletes ∨ a.mode.toNat ≤ 2), (7, deletes ∨ 1 ≤ a.threshold.toNat)]
      (firstBad (eventQueueChecks a))) ∧
  (∀ a : RequestQueueArgs,
    let deletes := a.size.toNat = 0
    FirstOut
      [(3, a.lane.toNat ≤ 3), (4, deletes ∨ a.base.toNat % 64 = 0),
        (5, a.size.toNat ∈ [0, 4, 8, 16, 32, 64, 128, 256]), (6, deletes ∨ a.completionQueue.toNat ≤ 3)]
      (firstBad (requestQueueChecks a))) ∧
  (∀ (slot : Byte) (address : Word),
    FirstOut [(3, slot.toNat ≤ 15), (4, address.toNat % 4 = 0)] (firstBad (loadProfileChecks slot address))) ∧
  (∀ slot : Byte, FirstOut [(3, slot.toNat ≤ 15)] (firstBad (clearProfileChecks slot))) ∧
  (∀ a : FilterArgs,
    let clears := a.valid.toNat = 0
    FirstOut
      [(3, a.entry.toNat ≤ 63), (4, a.valid.toNat ≤ 1), (6, clears ∨ a.profile.toNat ≤ 15),
        (9, clears ∨ a.action.toNat ≤ 6), (10, clears ∨ a.target.toNat ≤ 3)]
      (firstBad (filterChecks a))) ∧
  (∀ a : LaneArgs,
    let n := a.armedCount.toNat
    FirstOut
      [(3, a.lane.toNat ≤ 3), (4, a.mode.toNat ≤ 4), (5, a.inputLevel.toNat ≤ 1), (6, a.outputLevel.toNat ≤ 1),
        (9, a.deferLimit.toNat ≤ 10000), (10, 100 ≤ a.settleSilence.toNat), (11, n ≤ 4),
        (12, 1 ≤ n → a.armed1.toNat ≤ 15), (13, 2 ≤ n → a.armed2.toNat ≤ 15), (14, 3 ≤ n → a.armed3.toNat ≤ 15),
        (15, 4 ≤ n → a.armed4.toNat ≤ 15), (16, a.reportErrors.toNat ≤ 1), (17, a.capture.toNat ≤ 1),
        (18, a.defaultAction.toNat ≤ 1), (19, a.defaultEq.toNat ≤ 3), (20, a.guardMode.toNat ≤ 1),
        (21, 1 ≤ a.guardWindow.toNat ∧ a.guardWindow.toNat ≤ 60000), (22, a.gateCommand.toNat ≤ 2)]
      (firstBad (laneChecks a))) ∧
  (∀ lane scope : Byte,
    FirstOut [(3, lane.toNat ≤ 3), (4, scope.toNat ≤ 1)] (firstBad (abortChecks lane scope))) ∧
  (∀ lane : Byte, FirstOut [(3, lane.toNat ≤ 3)] (firstBad (laneOnlyChecks lane))) ∧
  (∀ address : Word, FirstOut [(3, address.toNat % 4 = 0)] (firstBad (captureBufferChecks address))) ∧
  (∀ a : CounterArgs,
    let lane := a.source.toNat = 0
    let range := a.source.toNat = 1
    FirstOut
      [(3, lane ∨ range), (4, range ∨ a.lane.toNat ≤ 3), (5, lane ∨ a.firstEntry.toNat ≤ 63),
        (6, lane ∨ 1 ≤ a.entryCount.toNat ∧ a.firstEntry.toNat + a.entryCount.toNat ≤ 64),
        (7, a.address.toNat % 4 = 0), (8, a.clear.toNat ≤ 1)]
      (firstBad (counterChecks a))) ∧
  ∀ e : RequestEntry,
    let bits := 1 ≤ e.bitCount.toNat ∧ e.bitCount.toNat ≤ 128
    FirstOut
      [(4, e.profile.toNat ≤ 15), (5, bits), (6, e.repeats.toNat ≤ 15), (7, e.repeatForm.toNat ≤ 1)]
      (firstBad (requestChecks .send e)) ∧
    FirstOut
      [(4, e.profile.toNat ≤ 15 ∨ e.profile.toNat = 255), (6, e.repeats.toNat ≤ 15),
        (9, e.listAddress.toNat % 4 = 0), (10, 1 ≤ e.pairCount.toNat ∧ e.pairCount.toNat ≤ 128)]
      (firstBad (requestChecks .raw e)) ∧
    FirstOut
      [(4, e.profile.toNat ≤ 15), (5, bits), (11, 1 ≤ e.holdLimit.toNat ∧ e.holdLimit.toNat ≤ 60000)]
      (firstBad (requestChecks .hold e)) ∧
    FirstOut
      [(4, e.profile.toNat ≤ 15), (5, bits), (6, e.repeats.toNat = 0),
        (12, 1 ≤ e.attempts.toNat ∧ e.attempts.toNat ≤ 8),
        (13, 1 ≤ e.replyWindow.toNat ∧ e.replyWindow.toNat ≤ 5000), (14, e.replyProfile.toNat ≤ 15)]
      (firstBad (requestChecks .exchange e))

/-- SET_EVENT_QUEUE with its fields in range. The claim is accepted when the queue is ABSENT or FAULTED, or RUNNING with
unread 0 and no event write to it in flight; it then creates the queue afresh, or with size 0 deletes it, its fault bit
and request flag cleared. Otherwise the command ends QUEUE_BUSY and the queue is unchanged. (The event writer's one
choice, after the queue and the ADMIN_DONE are there, is log entry 9.) -/
def Obligations.SetEventQueueClaimsQueue : Prop :=
  ∀ (tag : Half) (a : EventQueueArgs) (s : State) (adm : AdminQueue) (q : EqId),
    EntryRead s adm → a.queue.toNat = q.val →
    let t := taken s adm
    let free := (s.eq q).state = .absent ∨ (s.eq q).state = .faulted ∨
      (s.eq q).unread = 0 ∧ ∀ w, s.writer.inFlight ≠ some (w, q)
    (∀ m : Moderation, [Moderation.off, .count, .latched][a.mode.toNat]? = some m →
      a.size.toNat ∈ [16, 32, 64, 128, 256, 512, 1024] → a.base.toNat % 64 = 0 → 1 ≤ a.threshold.toNat → free →
      exec (.setEventQueue tag a) s = .next
        (chooseEvent
          (answered
            (t.setEq q
              { state := .running, base := a.base, size := a.size.toNat, tail := 0, phase := true, unread := 0,
                mode := m, threshold := a.threshold.toNat, holdoff := a.holdoff.toNat, flag := false,
                holdoffDue := none, fault := false })
            .ok tag 0 0))) ∧
    (a.size.toNat = 0 → q.val ≠ 0 → free →
      exec (.setEventQueue tag a) s = .next
        (chooseEvent
          (answered
            (t.setEq q
              { s.eq q with state := .absent, unread := 0, flag := false, holdoffDue := none, fault := false })
            .ok tag 0 0))) ∧
    (firstBad (eventQueueChecks a) = none → ¬ free →
      exec (.setEventQueue tag a) s = .next (chooseEvent (answered t .queueBusy tag 0 0)))

/-- SET_REQUEST_QUEUE with its fields in range. The claim is accepted when the lane's sequencer is IDLE and the queue is
ABSENT, FAULTED, or RUNNING with head equal to tail; it then creates the queue with head and tail 0, or with size 0
deletes it. Otherwise the command ends QUEUE_BUSY and the queue and the sequencer are unchanged. (That a sequencer in
POSTING refuses for a FAULTED queue too is the model's reading, log entry 11.) -/
def Obligations.SetRequestQueueClaimsQueue : Prop :=
  ∀ (tag : Half) (a : RequestQueueArgs) (s : State) (adm : AdminQueue) (l : Lane) (cq : EqId),
    EntryRead s adm → a.lane.toNat = l.val →
    let t := taken s adm
    let x := s.lane l
    let free := x.seq.state = .idle ∧
      (x.queue.state = .absent ∨ x.queue.state = .faulted ∨ x.queue.head = x.queue.tail)
    (a.size.toNat ∈ [4, 8, 16, 32, 64, 128, 256] → a.base.toNat % 64 = 0 → a.completionQueue.toNat = cq.val → free →
      exec (.setRequestQueue tag a) s = .next
        (chooseEvent
          (answered
            (t.setLane l
              { x with queue :=
                { state := .running, base := a.base, size := a.size.toNat, head := 0, tail := 0,
                  completionQueue := cq } })
            .ok tag 0 0))) ∧
    (a.size.toNat = 0 → free →
      ∃ queue, queue.state = .absent ∧
        exec (.setRequestQueue tag a) s = .next
          (chooseEvent (answered (t.setLane l { x with queue := queue }) .ok tag 0 0))) ∧
    (firstBad (requestQueueChecks a) = none → ¬ free →
      exec (.setRequestQueue tag a) s = .next (chooseEvent (answered t .queueBusy tag 0 0)))

/-- LOAD_PROFILE and CLEAR_PROFILE with their fields in range. For a slot that is armed or named by an active request
both end PROFILE_IN_USE and the slot keeps its state and fields. Otherwise CLEAR_PROFILE makes the slot INVALID and ends
OK, and LOAD_PROFILE makes it LOADING and asks for one read of 64 bytes at the record address. -/
def Obligations.ProfileCommandsClaimSlot : Prop :=
  ∀ (tag : Half) (slot : Byte) (address : Word) (s : State) (adm : AdminQueue) (i : SlotId),
    EntryRead s adm → slot.toNat = i.val → address.toNat % 4 = 0 →
    let t := taken s adm
    (InUse s i →
      exec (.loadProfile tag slot address) s = .next (chooseEvent (answered t .profileInUse tag slot 0)) ∧
      exec (.clearProfile tag slot) s = .next (chooseEvent (answered t .profileInUse tag slot 0))) ∧
    (¬ InUse s i →
      exec (.clearProfile tag slot) s = .next (chooseEvent (answered (t.setSlot i .invalid) .ok tag slot 0)) ∧
      exec (.loadProfile tag slot address) s = .next
        (chooseEvent
          ({ t.setSlot i .loading with
              admin := { t.admin with state := .executing tag (.profileRead i) } }.setBus .commandUnit
            (.pending { purpose := .profileRecord, address := address, length := 64, data := [] }))))

/-- The end of the profile record read: a bus error leaves the slot INVALID and ends the load FETCH_ERROR; a record that
fails its checks leaves it INVALID and ends FIELD_RANGE with the failing field; any other record makes it VALID with the
record's fields, its enumerated fields by their codes, and ends OK. Which records fail, and on which field, is
`ProfileRecordChecks`. -/
def Obligations.ProfileRecordReadEnds : Prop :=
  ∀ (tag : Half) (i : SlotId) (s : State),
    Outstanding s .commandUnit .profileRecord → s.admin.state = .executing tag (.profileRead i) →
    let t := s.setBus .commandUnit .idle
    let slot := BitVec.ofNat 8 i.val
    exec (.profileRecordReadEnd none) s = .next
      (chooseEvent (answered (t.setSlot i .invalid) .fetchError tag slot 0)) ∧
    ∀ r : ProfileRecord,
      (∀ n, recordFault r = some n →
        exec (.profileRecordReadEnd (some r)) s = .next
          (chooseEvent (answered (t.setSlot i .invalid) .fieldRange tag slot n))) ∧
      (recordFault r = none →
        let p := profileOf r
        exec (.profileRecordReadEnd (some r)) s = .next
          (chooseEvent (answered (t.setSlot i (.valid p)) .ok tag slot 0)) ∧
        [Encoding.pdist, .pwidth, .biphase][r.encoding.toNat]? = some p.encoding ∧
        (p.encoding = .biphase →
          [Polarity.markFirstIsOne, .markFirstIsZero][r.biphasePolarity.toNat]? = some p.polarity) ∧
        p.carrierHigh = r.carrierHigh.toNat ∧ p.carrierLow = r.carrierLow.toNat ∧
        p.leaderMark = r.leaderMark.toNat ∧ p.leaderSpace = r.leaderSpace.toNat ∧ p.mark0 = r.mark0.toNat ∧
        p.space0 = r.space0.toNat ∧ p.mark1 = r.mark1.toNat ∧ p.space1 = r.space1.toNat ∧
        p.trailerMark = r.trailerMark.toNat ∧ p.bitsMin = r.bitsMin.toNat ∧ p.bitsMax = r.bitsMax.toNat ∧
        p.endSilence = r.endSilence.toNat ∧ p.minGap = r.minGap.toNat ∧ p.framePeriod = r.framePeriod.toNat ∧
        p.repeatMark = r.repeatMark.toNat ∧ p.repeatSpace = r.repeatSpace.toNat ∧
        p.repeatWindow = r.repeatWindow.toNat ∧ [false, true][r.collapseIdentical.toNat]? = some p.collapseIdentical ∧
        p.tolerance = r.tolerance.toNat ∧ [false, true][r.learn.toNat]? = some p.learn ∧
        p.learnMin = r.learnMin.toNat ∧ p.learnMax = r.learnMax.toNat)

/-- The check of a profile record and the field number a failure reports. First, in field-number order, every field that
is not ignored for the record's encoding or learn setting must lie in its range (R4, R17). Then a BIPHASE leader space
must be at least the half-bit (6), the windows of a bit's two values and of a PWIDTH trailer must lie apart (10 for
PDIST, 9 and 11 for PWIDTH, 7 for BIPHASE: R18), and end silence must lie above the window of every space that belongs
inside a frame or a repeat code (14: R19). The first failure decides. -/
def Obligations.ProfileRecordChecks : Prop :=
  ∀ r : ProfileRecord,
    let tol := r.tolerance.toNat
    let low (n : Nat) : Nat := n - n * tol / 100
    let high (n : Nat) : Nat := n + n * tol / 100
    let apart (a b : Nat) : Prop := high a < low b ∨ high b < low a
    let below (n : Nat) : Prop := high n < r.endSilence.toNat
    let pdist := r.encoding.toNat = 0
    let pwidth := r.encoding.toNat = 1
    let biphase := r.encoding.toNat = 2
    let led := r.leaderMark.toNat ≠ 0
    let learns := r.learn.toNat = 1
    let h := r.mark0.toNat
    FirstOut
      [(1, pdist ∨ pwidth ∨ biphase), (2, biphase → r.biphasePolarity.toNat ≤ 1),
        (4, r.carrierHigh.toNat = 0 ↔ r.carrierLow.toNat = 0), (6, led → r.leaderSpace.toNat ≠ 0), (7, h ≠ 0),
        (8, ¬ biphase → r.space0.toNat ≠ 0),
        (9, (pdist → r.mark1 = r.mark0) ∧ (pwidth → r.mark1.toNat ≠ 0)), (10, pdist → r.space1.toNat ≠ 0),
        (11, (pdist → r.trailerMark.toNat ≠ 0) ∧ (biphase → r.trailerMark.toNat = 0)),
        (12, 1 ≤ r.bitsMin.toNat ∧ r.bitsMin.toNat ≤ 128),
        (13, r.bitsMin.toNat ≤ r.bitsMax.toNat ∧ r.bitsMax.toNat ≤ 128), (14, r.endSilence.toNat ≠ 0),
        (18, r.repeatMark.toNat = 0 ↔ r.repeatSpace.toNat = 0),
        (19, 1 ≤ r.repeatWindow.toNat ∧ r.repeatWindow.toNat ≤ 1000), (20, r.collapseIdentical.toNat ≤ 1),
        (21, 5 ≤ tol ∧ tol ≤ 40), (22, r.learn.toNat ≤ 1),
        (23, learns → 25 ≤ r.learnMin.toNat ∧ r.learnMin.toNat ≤ 100),
        (24, learns → 100 ≤ r.learnMax.toNat ∧ r.learnMax.toNat ≤ 400),
        (6, biphase → led → h ≤ r.leaderSpace.toNat), (10, pdist → apart r.space0.toNat r.space1.toNat),
        (9, pwidth → apart h r.mark1.toNat),
        (11, pwidth → r.trailerMark.toNat ≠ 0 →
          apart r.trailerMark.toNat h ∧ apart r.trailerMark.toNat r.mark1.toNat),
        (7, biphase → apart h (2 * h)),
        (14, (led → below r.leaderSpace.toNat) ∧ (pdist → below r.space0.toNat ∧ below r.space1.toNat) ∧
          (pwidth → below r.space0.toNat) ∧
          (biphase → below (2 * h) ∧ (led → below (r.leaderSpace.toNat + h))) ∧
          (r.repeatMark.toNat ≠ 0 → below r.repeatSpace.toNat))]
      (recordFault r)

/-- LOAD_FILTER with its fields in range replaces the whole match entry, its hit count becoming 0: with valid 1 by the
command's fields, with valid 0 by an invalid entry. It ends OK. -/
def Obligations.LoadFilterReplacesEntry : Prop :=
  ∀ (tag : Half) (a : FilterArgs) (s : State) (adm : AdminQueue) (i : EntryId),
    EntryRead s adm → a.entry.toNat = i.val →
    let t := taken s adm
    (a.valid.toNat = 0 →
      exec (.loadFilter tag a) s = .next
        (chooseEvent (answered (t.setEntry i { filter := none, hits := 0 }) .ok tag 0 0))) ∧
    (∀ (p : SlotId) (act : Action) (target : EqId),
      a.valid.toNat = 1 → a.profile.toNat = p.val → a.target.toNat = target.val →
      [Action.press, .end_, .both, .each, .count, .drop, .wake][a.action.toNat]? = some act →
      ∃ f : Filter,
        exec (.loadFilter tag a) s = .next
          (chooseEvent (answered (t.setEntry i { filter := some f, hits := 0 }) .ok tag 0 0)) ∧
        f.profile = p ∧ f.mask = a.mask ∧ f.value = a.value ∧ f.action = act ∧ f.target = target ∧
        f.tag = a.entryTag ∧ ∀ l : Lane, f.lanes.getLsbD l.val = a.lanes.getLsbD l.val)

/-- SET_LANE with its fields in range and a lane of the part. In this order: an armed list that names a slot twice ends
FIELD_RANGE with the number of the second appearance; an armed slot that is not VALID or has leader_mark 0 ends
PROFILE_INVALID with the number of the first such field; a lane with an active request, or reading an entry or a list,
ends LANE_BUSY. None of these touches any block. -/
def Obligations.SetLaneRefusals : Prop :=
  ∀ (tag : Half) (a : LaneArgs) (s : State) (adm : AdminQueue) (l : Lane),
    EntryRead s adm → firstBad (laneChecks a) = none → a.lane.toNat = l.val →
    let refused (c : Code) (n : Nat) : Host.Outcome State Fault Refusal :=
      .next (chooseEvent (answered (taken s adm) c tag 0 n))
    let armed := armedList a
    let x := s.lane l
    let armable (i : SlotId) : Prop := ∃ p, s.slot i = .valid p ∧ p.leaderMark ≠ 0
    (∀ (k : Nat) (i : SlotId), armed[k]? = some i → i ∈ armed.take k → (armed.take k).Nodup →
      exec (.setLane tag a) s = refused .fieldRange (12 + k)) ∧
    (∀ (k : Nat) (i : SlotId), armed.Nodup → armed[k]? = some i → ¬ armable i →
      (∀ j ∈ armed.take k, armable j) → exec (.setLane tag a) s = refused .profileInvalid (12 + k)) ∧
    (armed.Nodup → (∀ i ∈ armed, armable i) →
      x.seq.active.isSome ∨ x.seq.state = .fetch ∨ x.seq.state = .listFetch →
      exec (.setLane tag a) s = refused .laneBusy 0)

/-- A SET_LANE that is not refused is applied and ends OK. The lane takes the new settings, the command's fields with
their codes, and its input side restarts in a receive mode, with the decoder in HUNT, or stops, with the decoder OFF;
the echo guard and the blind condition end; a decoder's capture buffer returns to the list; an open press closes, with
the END it owes, when its profile is no longer armed or the lane no longer receives; the gate follows R81, and under
KEEP its timer runs on as the press's close left it. Leaving DISABLED with an entry waiting the sequencer enters FETCH
and asks for the entry at the head, or waits to ask while a discarded pair list read holds its place (log entry 13); in
every other case what the bus port holds for it stays. (The event writer's one choice at the end is log entry 9.) The
other lanes, the capture writer, the line-free time and everything outside the lane stay as they are. -/
def Obligations.SetLaneApplied : Prop :=
  ∀ (tag : Half) (a : LaneArgs) (s : State) (adm : AdminQueue) (l : Lane),
    EntryRead s adm → firstBad (laneChecks a) = none → a.lane.toNat = l.val → (armedList a).Nodup →
    (∀ i ∈ armedList a, ∃ p, s.slot i = .valid p ∧ p.leaderMark ≠ 0) →
    (s.lane l).seq.active = none → (s.lane l).seq.state ≠ .fetch → (s.lane l).seq.state ≠ .listFetch →
    let new := laneSettings a
    let x := s.lane l
    let on := receiving new.mode
    let begins : Bool :=
      x.settings.mode == .disabled && new.mode != .disabled && x.seq.state == .idle && x.queue.state == .running &&
        x.queue.head != x.queue.tail
    ([LaneMode.disabled, .txOnly, .rxOnly, .shared, .split][a.mode.toNat]? = some new.mode ∧
      [false, true][a.inputLevel.toNat]? = some new.inputHigh ∧
      [false, true][a.outputLevel.toNat]? = some new.outputHigh ∧ new.glitchWidth = a.glitchWidth.toNat ∧
      new.echoGuard = a.echoGuard.toNat ∧ new.deferLimit = a.deferLimit.toNat ∧
      new.settleSilence = a.settleSilence.toNat ∧ new.armed = armedList a ∧
      (armedList a).map Fin.val =
        ([a.armed1, a.armed2, a.armed3, a.armed4].map BitVec.toNat).take a.armedCount.toNat ∧
      [false, true][a.reportErrors.toNat]? = some new.reportErrors ∧
      [false, true][a.capture.toNat]? = some new.capture ∧
      [true, false][a.defaultAction.toNat]? = some new.defaultDeliver ∧ new.defaultEq.val = a.defaultEq.toNat ∧
      [false, true][a.guardMode.toNat]? = some new.guarded ∧ new.guardWindow = a.guardWindow.toNat) ∧
    ∃ t, exec (.setLane tag a) s = .next (chooseEvent (answered t .ok tag 0 0)) ∧
      OnlyLaneAndBuffers l (taken s adm) t ∧
      t.captureList = s.captureList ++ x.decoder.buffer.toList ∧
      (t.lane l).settings = new ∧ (t.lane l).pinHigh = x.pinHigh ∧ (t.lane l).blind = false ∧
      (t.lane l).echoDue = none ∧ (t.lane l).decoder = (if on then .hunt s.clock else .off) ∧
      (t.lane l).filter =
        (if on then
          some { mark := x.pinHigh == new.inputHigh, firstEdge := s.clock, handed := false, stuckReported := false,
                 unblinded := none, excursion := none }
        else none) ∧
      (t.lane l).capture = x.capture ∧ (t.lane l).tx = x.tx ∧ (t.lane l).queue = x.queue ∧
      (∀ p, x.press = some p → on = true → p.profile ∈ new.armed →
        (t.lane l).press = some p ∧ (t.lane l).outbox = x.outbox ∧ (t.lane l).counters = x.counters) ∧
      (x.press = none →
        (t.lane l).press = none ∧ (t.lane l).outbox = x.outbox ∧ (t.lane l).counters = x.counters) ∧
      (∀ p, x.press = some p → on = false ∨ p.profile ∉ new.armed →
        (t.lane l).press = none ∧
        (t.lane l).outbox = ((closed l p s).lane l).outbox ∧
        (t.lane l).counters = ((closed l p s).lane l).counters) ∧
      (new.guarded = false → (t.lane l).gateOpen = false ∧ (t.lane l).gateDue = none) ∧
      (new.guarded = true → a.gateCommand.toNat = 0 →
        (t.lane l).gateOpen = x.gateOpen ∧ (x.press = none → (t.lane l).gateDue = x.gateDue) ∧
        ∀ p, x.press = some p →
          (on = true → p.profile ∈ new.armed → (t.lane l).gateDue = x.gateDue) ∧
          (on = false ∨ p.profile ∉ new.armed → (t.lane l).gateDue = ((closed l p s).lane l).gateDue)) ∧
      (new.guarded = true → a.gateCommand.toNat = 1 →
        (t.lane l).gateOpen = true ∧ (t.lane l).gateDue = some (s.clock + new.guardWindow * 1000)) ∧
      (new.guarded = true → a.gateCommand.toNat = 2 → (t.lane l).gateOpen = false ∧ (t.lane l).gateDue = none) ∧
      (t.lane l).seq = (if begins then { x.seq with state := .fetch } else x.seq) ∧
      (begins = true →
        t.busSlot (.sequencer l) = (asked (.sequencer l) (entryAtHead x.queue) s).busSlot (.sequencer l)) ∧
      (begins = false → t.busSlot (.sequencer l) = s.busSlot (.sequencer l))

/-- ABORT_LANE and RESET_LANE, their fields in range, by the sequencer's state; RESET_LANE flushes as scope FLUSH does.
A request that is active, its completion not yet made, completes ABORTED with the transmissions or attempts it started
and its end cause discarded; a transmission on the line is cut, which sets the line-free time and, on a SHARED lane,
counts the echo guard from now, or with echo_guard 0 withdraws the blind condition (`ReceiveTimersExpire`); a pair list
read is no longer wanted; nothing else changes. In FETCH the entry runs on under CURRENT; under a flush one that has
been taken is answered ABORTED at once, and one whose read is in flight is among those the flush will answer. In POSTING
the completion already made stands. A flush notes the entries from head to tail, and in IDLE begins to read the first of
them, whatever the lane mode. While there is an ABORTED completion to come the command waits in EXECUTING; otherwise it
ends OK with detail 0 at once, a RESET_LANE with the lane's reset (`ResetLaneReturnsLane`). (That a reset which finds a
completion waiting in POSTING does not wait for it is the model's reading, log entry 15; that a flushed entry's
completion names its field 4 as profile is log entry 24; that a list read not yet started stays at the bus port,
discarded, and that an IDLE sequencer whose place a discarded read still holds enters FETCH and waits to ask, is log
entry 13; that a notice and a completion made in one cut are before the event writer's one choice is log entry 9.) -/
def Obligations.AbortEndsRequests : Prop :=
  ∀ (reset : Bool) (tag : Half) (lane scope : Byte) (s : State) (adm : AdminQueue) (l : Lane),
    EntryRead s adm → lane.toNat = l.val → scope.toNat ≤ 1 → (s.lane l).oneRequest →
    let x := s.lane l
    let t := taken s adm
    let sent : Instr := if reset then .resetLane tag lane else .abortLane tag lane scope
    let flush : Bool := reset || scope == 1
    let waiting := if x.queue.state = .running then
      (x.queue.tail + x.queue.size - x.queue.head) % x.queue.size else 0
    let ends (u : State) : Prop := exec sent s = .next (chooseEvent u)
    let atOnce : Prop :=
      x.seq.abort = none → ends (answered (if reset then resetLane l t else t) .ok tag 0 0)
    let work (q : Sequencer) (remaining aborted : Nat) : State :=
      { t.setLane l { x with seq := { q with abort := some { remaining := remaining, aborted := aborted } } } with
        admin := { state := .executing tag (.laneAbort l reset), queue := t.admin.queue } }
    (∀ r, x.seq.active = some r → x.seq.state ≠ .posting →
      let shared := x.tx.isSome && x.settings.mode == .shared
      let ended : LaneState :=
        { x with
          tx := none
          echoDue := if shared ∧ 0 < x.settings.echoGuard then some (s.clock + x.settings.echoGuard) else x.echoDue
          seq :=
            { x.seq with
              active := some { r with endCause := none }
              lineFree := if x.tx.isSome then some (s.clock + s.gapAfter r) else x.seq.lineFree } }
      let cut : State :=
        { (t.setLane l ended).setBus (.sequencer l) (listUnwanted (s.busSlot (.sequencer l))) with
          admin := { state := .executing tag (.laneAbort l reset), queue := t.admin.queue } }
      let u := if shared ∧ x.settings.echoGuard = 0 then withdrawBlind l cut else cut
      ends
        (u.setLane l
          { u.lane l with
            seq :=
              { posting ended.seq (completion s l .aborted r.entry.tag r.entry.profile r.started 0) with
                abort := some { remaining := if flush then waiting else 0, aborted := 1 } } })) ∧
    (x.seq.state = .fetch →
      (flush = false → atOnce) ∧
      (flush = true → x.seq.taken = none → ends (work x.seq (max 1 waiting) 0)) ∧
      ∀ e, flush = true → x.seq.taken = some e →
        ends (work (posting x.seq (completion s l .aborted e.tag e.profile 0 0)) waiting 1)) ∧
    (x.seq.state = .posting →
      (flush = false ∨ waiting = 0 → atOnce) ∧ (flush = true → 1 ≤ waiting → ends (work x.seq waiting 0))) ∧
    (x.seq.state = .idle →
      (flush = false ∨ waiting = 0 → atOnce) ∧
      (flush = true → 1 ≤ waiting →
        ends (asked (.sequencer l) (entryAtHead x.queue) (work { x.seq with state := .fetch } waiting 0))))

/-- RESET_LANE with nothing to flush and no request in hand resets the lane at once and ends OK with detail 0. The
lane's settings, counters and receive side take their reset values and its press is dropped without an END; an event
whose write is in flight is kept for that write, and every other event of the outbox is discarded; the buffers of the
decoder, the capture writer and the discarded CAPTURE events return to the list, between the outbox's and the others in
an order the manual leaves open (log entry 10); a write of the capture writer stays at the bus port, its result to be
disregarded (log entry 13 for one not yet started); the request queue, the sequencer and the pin stay, and so does
everything else but the count of free values. -/
def Obligations.ResetLaneReturnsLane : Prop :=
  ∀ (tag : Half) (lane : Byte) (s : State) (adm : AdminQueue) (l : Lane),
    EntryRead s adm → lane.toNat = l.val → (s.lane l).oneRequest → (s.lane l).seq.state = .idle →
    (s.lane l).seq.abort = none →
    (s.lane l).queue.state ≠ .running ∨ (s.lane l).queue.head = (s.lane l).queue.tail →
    (s.lane l).outbox.settling = none →
    let x := s.lane l
    let kept : Option RxEvent :=
      if ∃ q, s.writer.inFlight = some (.outbox l, q) then x.outbox.events.head? else none
    let boxed := captureBuffers (if kept.isSome then x.outbox.events.tail else x.outbox.events)
    let held := x.decoder.buffer.toList ++ (x.capture.map FinishedCapture.buffer).toList
    let u := (taken s adm).setLane l
      { LaneState.reset with
        pinHigh := x.pinHigh, queue := x.queue, seq := x.seq, tx := x.tx
        outbox := { events := [], lost := 0, settling := kept } }
    let v := if x.capture.isSome then
      u.setBus (.captureWriter l) (captureUnwanted (s.busSlot (.captureWriter l))) else u
    ∃ returned n, (returned = held ++ boxed ∨ returned = boxed ++ held) ∧
      exec (.resetLane tag lane) s = .next
        (chooseEvent
          (answered { v with captureList := s.captureList ++ returned, freeIndex := n } .ok tag 0 0))

/-- RELEASE of the lane's active HOLD with this tag, its end cause none. In SENDING the hold enters ENDING with cause
RELEASED, its limit timer cancelled, and the transmission runs on; in GAP, DEFER and HOLDING it completes RELEASED at
once with the transmissions started, its end cause RELEASED. The command ends OK. In every other case it ends
NOT_HOLDING and nothing changes at the sequencer. -/
def Obligations.ReleaseEndsHold : Prop :=
  ∀ (tag : Half) (lane : Byte) (holdTag : Half) (s : State) (adm : AdminQueue) (l : Lane),
    EntryRead s adm → lane.toNat = l.val →
    let t := taken s adm
    let x := s.lane l
    let ends (q : Sequencer) : Host.Outcome State Fault Refusal :=
      .next (chooseEvent (answered (t.setLane l { x with seq := q }) .ok tag 0 0))
    (∀ r, x.seq.active = some r → r.kind = .hold → r.entry.tag = holdTag → r.endCause = none →
      (x.seq.state = .sending →
        exec (.release tag lane holdTag) s =
          ends { x.seq with state := .ending, active := some { r with endCause := some .released },
                            limitDue := none }) ∧
      (x.seq.state = .gap ∨ x.seq.state = .defer ∨ x.seq.state = .holding →
        exec (.release tag lane holdTag) s =
          ends { posting x.seq (completion s l .released holdTag r.entry.profile r.started 0) with
                 active := some { r with endCause := some .released } })) ∧
    (x.seq.state = .posting ∨
        (∀ r, x.seq.active = some r → r.kind ≠ .hold ∨ r.entry.tag ≠ holdTag ∨ r.endCause ≠ none) →
      exec (.release tag lane holdTag) s = .next (chooseEvent (answered t .notHolding tag 0 0)))

/-- READ_COUNTERS with its fields in range reads the counters at their owner as they stand and asks for one write of
them, four bytes each, low byte first: a lane's eight counters in index order, or the hit counts of a range of match
entries. At the write's end it ends OK, and with clear 1 the counters read become 0, no other; after a bus error it ends
WRITE_ERROR and no counter is cleared. -/
def Obligations.ReadCountersWritesBlock : Prop :=
  ∀ (tag : Half) (s : State),
    (∀ (a : CounterArgs) (adm : AdminQueue), EntryRead s adm → firstBad (counterChecks a) = none →
      let clear := decide (a.clear.toNat = 1)
      let asked (source : CounterSource) (block : List Byte) : Host.Outcome State Fault Refusal :=
        .next
          (chooseEvent
            ({ taken s adm with
                admin := { (taken s adm).admin with state := .executing tag (.counterWrite source clear) } }.setBus
              .commandUnit
              (.pending { purpose := .counterBlock, address := a.address, length := block.length, data := block })))
      (∀ l : Lane, a.source.toNat = 0 → a.lane.toNat = l.val →
        exec (.readCounters tag a) s =
          asked (.lane l)
            ([LaneCounter.framesGood, .framesBad, .repeats, .orphans, .noise, .captureDrops, .collisions,
              .lostEvents].flatMap fun c => wordBytes ((s.lane l).counter c))) ∧
      (a.source.toNat = 1 →
        exec (.readCounters tag a) s =
          asked (.hits a.firstEntry.toNat a.entryCount.toNat)
            ((List.range a.entryCount.toNat).flatMap fun k =>
              wordBytes (s.entry (toEntry (BitVec.ofNat 8 (a.firstEntry.toNat + k)))).hits))) ∧
    ∀ (source : CounterSource) (clear : Bool),
      Outstanding s .commandUnit .counterBlock → s.admin.state = .executing tag (.counterWrite source clear) →
      let t := s.setBus .commandUnit .idle
      exec (.counterBlockWriteEnd true) s = .next (chooseEvent (answered t .writeError tag 0 0)) ∧
      (clear = false → exec (.counterBlockWriteEnd false) s = .next (chooseEvent (answered t .ok tag 0 0))) ∧
      (∀ l, clear = true → source = .lane l →
        exec (.counterBlockWriteEnd false) s = .next
          (chooseEvent
            (answered (t.setLane l { s.lane l with counters := Vector.replicate 8 0 }) .ok tag 0 0))) ∧
      ∀ first count, clear = true → source = .hits first count →
        ∃ u, exec (.counterBlockWriteEnd false) s = .next (chooseEvent (answered u .ok tag 0 0)) ∧
          u = { t with matchTable := u.matchTable } ∧
          ∀ i : EntryId, u.entry i =
            if first ≤ i.val ∧ i.val < first + count then { s.entry i with hits := 0 } else s.entry i

/-! ## Receive side -/

/-- A change of the input pin. A level the pin has already is no change; a stopped input side sees nothing. With no
excursion pending and a glitch_width above 0 the change begins an excursion, timed now; with glitch_width 0 it is
confirmed at the edge itself, as `TransitionConfirmed` says. A change that returns before the excursion has held for
glitch_width drops it, and a crossing it held back is reported, as `ThresholdCrossingActs` says. An excursion that has
held for glitch_width is confirmed before the change, which begins the next. -/
def Obligations.PinEdgeFiltered : Prop :=
  ∀ (l : Lane) (high : Bool) (s : State),
    let x := s.lane l
    let moved := s.setLane l { x with pinHigh := high }
    let follow (f : InputFilter) (e : Option Moment) : State :=
      s.setLane l { x with pinHigh := high, filter := some { f with excursion := e } }
    (x.pinHigh = high → exec (.pinEdge l high) s = .next (chooseEvent s)) ∧
    (x.pinHigh ≠ high → x.filter = none → exec (.pinEdge l high) s = .next (chooseEvent moved)) ∧
    ∀ f, x.pinHigh ≠ high → x.filter = some f →
      (f.excursion = none → 0 < x.settings.glitchWidth →
        exec (.pinEdge l high) s = .next (chooseEvent (follow f (some s.clock)))) ∧
      (f.excursion = none → x.settings.glitchWidth = 0 →
        exec (.pinEdge l high) s = exec (.transitionConfirm l) (follow f (some s.clock))) ∧
      ∀ e, f.excursion = some e →
        (s.clock < e + x.settings.glitchWidth →
          exec (.pinEdge l high) s = exec (.thresholdCrossing l) (follow f none)) ∧
        (e + x.settings.glitchWidth ≤ s.clock → 0 < x.settings.glitchWidth →
          let u := confirmHeld l moved
          exec (.pinEdge l high) s = .next
            (chooseEvent
              (u.setLane l
                { u.lane l with
                  filter := (u.lane l).filter.map fun g => { g with excursion := some s.clock } })))

/-- An excursion that has held for glitch_width µs is confirmed. When the interval in progress reached no threshold at
or before the excursion's edge, or the one it reached has been reported, the transition is handed at once; when it
reached one that has not been reported, the crossing is reported first and the transition after it. The transition makes
the new level the confirmed level with that edge as its first edge, and the decoder takes it with the length of the
interval it ends, first edge to first edge, where that interval is handed; a crossing that the decoder then names and
that is already passed is reported at once, and with none the transition is all that happens. Every excursion that has
held is settled so: the command answers a next state with the new level confirmed and no excursion pending, the other
lanes unchanged. An excursion that has not held long enough, or none, is no transition. -/
def Obligations.TransitionConfirmed : Prop :=
  ∀ (l : Lane) (s : State) (f : InputFilter), (s.lane l).filter = some f →
    let x := s.lane l
    let unreached (u : State) (g : InputFilter) (e : Moment) : Prop :=
      ∀ n, u.namedThreshold l g.mark = some n → e < g.firstEdge + n ∨ g.mark = true ∧ g.stuckReported = true
    let quiet (v : State) : Prop :=
      ∀ g n, (v.lane l).filter = some g → v.namedThreshold l g.mark = some n →
        s.clock < g.firstEdge + n ∨ g.mark = true ∧ g.stuckReported = true
    (∀ e, f.excursion = some e → e + x.settings.glitchWidth ≤ s.clock →
      (∃ t g, exec (.transitionConfirm l) s = .next t ∧ (t.lane l).filter = some g ∧ g.mark = !f.mark ∧
        g.firstEdge = e ∧ g.excursion = none ∧ ∀ l' : Lane, l' ≠ l → t.lane l' = s.lane l') ∧
      (unreached s f e →
        exec (.transitionConfirm l) s = exec (.thresholdCrossing l) (transition l f e s) ∧
        (quiet (transition l f e s) →
          exec (.transitionConfirm l) s = .next (chooseEvent (transition l f e s)))) ∧
      ∀ n, s.namedThreshold l f.mark = some n → f.firstEdge + n ≤ e → ¬ (f.mark = true ∧ f.stuckReported = true) →
        let u := takeCrossing l f.mark f.firstEdge n s
        let g : InputFilter := { f with stuckReported := f.stuckReported || f.mark }
        (u.lane l).filter = some g ∧
          (unreached u g e →
            exec (.transitionConfirm l) s = exec (.thresholdCrossing l) (transition l g e u) ∧
            (quiet (transition l g e u) →
              exec (.transitionConfirm l) s = .next (chooseEvent (transition l g e u))))) ∧
    ((∀ e, f.excursion = some e → s.clock < e + x.settings.glitchWidth) →
      exec (.transitionConfirm l) s = .next (chooseEvent s))

/-- What the decoder does with a transition, by its state. OFF disregards it. BLIND does too, but for a mark begun
before a first transmission's start that left HUNT together with it, which is counted as a collision (log entry 30).
HUNT takes a new mark whose first edge lies after the latest entry into HUNT as a leader. The first mark's end makes the
candidate list, and SPACE_CHECK with it when it is not empty; with no candidate the burst claims a capture buffer, or
drains. In SPACE_CHECK the candidates are tried in armed order: the first that matches by its leader space begins a
frame, or by its repeat space, with a press of its profile open, a repeat code; failing both, the first match by a
repeat space alone makes an orphan; failing that the burst is unclassified, and its space decides whether it goes on in
CAPTURE or DRAIN or has ended, the mark then being a new leader, which a sequencer in DEFER overruns (log entry 28). In
SYMBOLS the profile's encoding takes the interval, and a frame BROKEN or LONG leaves the decoder in DRAIN. In
REPEAT_TAIL the closing mark in its window is taken, and any other mark, or a space that ends, makes an orphan. DRAIN
disregards every interval until its own end, which in the kind STUCK is a new space. CAPTURE opens a pair at a mark's
end and completes it at the end of its space, the sixty-fourth pair ending the capture CAPTURE_FULL. A capture that ends
while a discarded write holds the capture writer's place waits there (log entry 13). -/
def Obligations.DecoderTakesTransition : Prop :=
  ∀ (l : Lane) (edge : Moment) (ended : Option Nat) (s : State),
    let x := s.lane l
    let become (d : Decoder) : State := s.setLane l { x with decoder := d }
    let drains (k : DrainKind) (t : State) : State := t.setLane l { t.lane l with decoder := .drain k }
    let collects (w : CaptureWork) (t : State) : State := t.setLane l { t.lane l with decoder := .capture w }
    (x.decoder = .off → ∀ mark, takeTransition l mark edge ended s = s) ∧
    (x.decoder = .blind →
      takeTransition l false edge ended s = s ∧
      (∀ t since, x.tx = some t → t.metHunt = some since → t.start = s.clock → since < edge → edge < t.start →
        takeTransition l true edge ended s = overrun l s) ∧
      ((∀ t since, x.tx = some t → t.metHunt = some since → t.start = s.clock → edge ≤ since ∨ t.start ≤ edge) →
        takeTransition l true edge ended s = s)) ∧
    (∀ since, x.decoder = .hunt since →
      (since < edge → takeTransition l true edge ended s = become (.leader edge)) ∧
      (edge ≤ since → takeTransition l true edge ended s = s) ∧ takeTransition l false edge ended s = s) ∧
    (∀ start m c cs, x.decoder = .leader start → s.candidates l m = c :: cs →
      takeTransition l false edge (some m) s = become (.spaceCheck start m (c :: cs))) ∧
    (∀ start m b u, x.decoder = .leader start → s.candidates l m = [] → Claimed l s b u →
      (∀ w, b = some w →
        takeTransition l false edge (some m) s =
          collects { buffer := w, start := start, pairs := [], openMark := some m } u) ∧
      (b = none → takeTransition l false edge (some m) s = drains .settle u)) ∧
    (∀ start m cs d, x.decoder = .spaceCheck start m cs →
      let leads (c : Candidate) := leaderSpaceMatch (s.profile c.slot) c d
      let repeats (c : Candidate) := repeatSpaceMatch (s.profile c.slot) c d
      let pressed (c : Candidate) : Prop := ∃ p, x.press = some p ∧ p.profile = c.slot
      let fails (c : Candidate) : Prop := leads c = none ∧ (repeats c ≠ none → ¬ pressed c)
      (∀ before c after, cs = before ++ c :: after → (∀ b ∈ before, fails b) →
        (∀ scale half, leads c = some (scale, half) →
          takeTransition l true edge (some d) s =
            become (.symbols start c.slot scale
              { count := 0, payload := 0, bitMark := false, trailerMark := false, half := half })) ∧
        (∀ scale, leads c = none → repeats c = some scale → pressed c →
          takeTransition l true edge (some d) s = become (.repeatTail start c.slot scale))) ∧
      (∀ before c after scale, cs = before ++ c :: after → (∀ b ∈ cs, fails b) → (∀ b ∈ before, repeats b = none) →
        repeats c = some scale →
        takeTransition l true edge (some d) s =
          drains (.profile ((s.profile c.slot).endSilence * scale / 256)) (bump l .orphans s)) ∧
      (∀ b u, (∀ c ∈ cs, leads c = none ∧ repeats c = none) → Claimed l s b u →
        (d < x.settings.settleSilence →
          (∀ w, b = some w →
            takeTransition l true edge (some d) s =
              collects { buffer := w, start := start, pairs := [⟨m, d⟩], openMark := none } u) ∧
          (b = none → takeTransition l true edge (some d) s = drains .settle u)) ∧
        (x.settings.settleSilence ≤ d →
          let done := single l b start m u
          (x.seq.state ≠ .defer →
            takeTransition l true edge (some d) s = done.setLane l { done.lane l with decoder := .leader edge }) ∧
          (x.seq.state = .defer → x.seq.active.isSome → x.settings.mode = .shared → x.blind = false →
            takeTransition l true edge (some d) s = overrun l (hunting l done))))) ∧
    (∀ start i scale part d mark, x.decoder = .symbols start i scale part →
      let silent := (s.profile i).endSilence * scale / 256
      (∀ next, symbol (s.profile i) scale d (!mark) part = .ok next →
        takeTransition l mark edge (some d) s = become (.symbols start i scale next)) ∧
      (∀ last, symbol (s.profile i) scale d (!mark) part = .broken last →
        takeTransition l mark edge (some d) s =
          drains (.profile silent) (frameInError l .broken i start last s)) ∧
      (∀ last, symbol (s.profile i) scale d (!mark) part = .long last →
        takeTransition l mark edge (some d) s =
          drains (.profile silent) (frameInError l .long i start last s))) ∧
    (∀ start i scale, x.decoder = .repeatTail start i scale →
      let p := s.profile i
      let closing := if p.trailerMark = 0 then p.repeatMark else p.trailerMark
      let orphaned := drains (.profile (p.endSilence * scale / 256)) (bump l .orphans s)
      (∀ d,
        (fits p scale d closing = true → takeTransition l false edge (some d) s = s) ∧
        (fits p scale d closing = false → takeTransition l false edge (some d) s = orphaned)) ∧
      takeTransition l true edge ended s = orphaned) ∧
    (∀ k, x.decoder = .drain k → k ≠ .stuck → ∀ mark, takeTransition l mark edge ended s = s) ∧
    (x.decoder = .drain .stuck →
      takeTransition l true edge ended s = s ∧ takeTransition l false edge ended s = hunting l s) ∧
    (∀ w d, x.decoder = .capture w →
      takeTransition l false edge (some d) s = become (.capture { w with openMark := some d }) ∧
      ∀ m, w.openMark = some m →
        (w.pairs.length < 63 →
          takeTransition l true edge (some d) s =
            become (.capture { w with pairs := w.pairs ++ [⟨m, d⟩], openMark := none })) ∧
        (w.pairs.length = 63 →
          takeTransition l true edge (some d) s =
            passed l w.buffer w.start .captureFull (w.pairs ++ [⟨m, d⟩]) (become (.drain .settle))))

/-- How the decoder judges an interval. A learning profile's scale is measured against its mark and accepted between
learn_min and learn_max; without learning the mark must lie in its window, with scale 256. The candidates of a first
mark are the armed profiles that pass the leader test or the repeat test, in armed order. The leader space, in BIPHASE
with or without a half-bit, and the repeat space are judged by scaled windows, and the greatest scaled end silence ends
SPACE_CHECK. Each encoding then takes a mark, a space and the silence at a frame's end as its rule states: which bits an
interval yields, what it leaves waiting, and when the frame is BROKEN, or LONG with a bit more than bits_max. -/
def Obligations.IntervalsJudgedByScaledWindows : Prop :=
  ∀ (s : State) (l : Lane) (p : Profile),
    let bit (v : Bool) (part : PartialFrame) : SymbolResult :=
      if p.bitsMax ≤ part.count then .long part
      else .ok { part with count := part.count + 1,
                           payload := part.payload ||| BitVec.ofNat 128 (if v then 2 ^ part.count else 0) }
    let half (level : Bool) (part : PartialFrame) : SymbolResult :=
      match part.half with
      | none => .ok { part with half := some level }
      | some first =>
          if first = level then .broken part
          else bit (first == (p.polarity == .markFirstIsOne)) { part with half := none }
    let halfAgain (level : Bool) : SymbolResult → SymbolResult
      | .ok part => half level part
      | stopped => stopped
    (∀ m n,
      let scale := m * 256 / n
      let accepted := p.learnMin * 256 ≤ scale * 100 ∧ scale * 100 ≤ p.learnMax * 256
      (p.learn = true → markScale p m n = if accepted then some scale else none) ∧
      (p.learn = false → markScale p m n = if fits p 256 m n then some 256 else none)) ∧
    (∀ m,
      ((s.candidates l m).map Candidate.slot).Sublist (s.lane l).settings.armed ∧
      ∀ c, c ∈ s.candidates l m ↔
        c.slot ∈ (s.lane l).settings.armed ∧ (c.leader.isSome ∨ c.repeated.isSome) ∧
        c.leader = markScale (s.profile c.slot) m (s.profile c.slot).leaderMark ∧
        c.repeated = if (s.profile c.slot).repeatMark = 0 then none
          else markScale (s.profile c.slot) m (s.profile c.slot).repeatMark) ∧
    (∀ (c : Candidate) (d : Nat),
      (c.leader = none → leaderSpaceMatch p c d = none) ∧ (c.repeated = none → repeatSpaceMatch p c d = none) ∧
      (∀ k, c.leader = some k →
        leaderSpaceMatch p c d =
          if fits p k d p.leaderSpace then some (k, none)
          else if p.encoding = .biphase ∧ fits p k d (p.leaderSpace + p.mark0) = true then some (k, some false)
          else none) ∧
      ∀ k, c.repeated = some k → repeatSpaceMatch p c d = if fits p k d p.repeatSpace then some k else none) ∧
    (∀ cs : List Candidate,
      let silence (c : Candidate) (n : Nat) : Prop :=
        ∃ k, (c.leader = some k ∨ c.repeated = some k) ∧ n = (s.profile c.slot).endSilence * k / 256
      (∀ c ∈ cs, ∀ n, silence c n → n ≤ spaceThreshold s cs) ∧
      (spaceThreshold s cs = 0 ∨ ∃ c ∈ cs, silence c (spaceThreshold s cs))) ∧
    (p.encoding = .pdist → ∀ k d part,
      symbol p k d true part =
        (if fits p k d p.mark0 || fits p k d p.trailerMark then
          .ok { part with bitMark := fits p k d p.mark0, trailerMark := fits p k d p.trailerMark }
        else .broken part) ∧
      symbol p k d false part =
        (if part.bitMark = true ∧ fits p k d p.space0 = true then bit false part
        else if part.bitMark = true ∧ fits p k d p.space1 = true then bit true part
        else .broken part) ∧
      silence p part = if part.trailerMark then .ok part else .broken part) ∧
    (p.encoding = .pwidth → ∀ k d part,
      symbol p k d true part =
        (if fits p k d p.mark0 then bit false part
        else if fits p k d p.mark1 then bit true part
        else if p.trailerMark ≠ 0 ∧ fits p k d p.trailerMark = true then .ok { part with trailerMark := true }
        else .broken part) ∧
      symbol p k d false part =
        (if part.trailerMark = false ∧ fits p k d p.space0 = true then .ok part else .broken part) ∧
      silence p part = if p.trailerMark = 0 ∨ part.trailerMark = true then .ok part else .broken part) ∧
    (p.encoding = .biphase → ∀ k d level part,
      symbol p k d level part =
        (if fits p k d p.mark0 then half level part
        else if fits p k d (2 * p.mark0) then halfAgain level (half level part)
        else .broken part) ∧
      (part.half = none → silence p part = .ok part) ∧ (part.half = some true → silence p part = half false part) ∧
      (part.half = some false → silence p part = .broken part))

/-- A threshold that the running interval has reached. A mark of 65535 µs not yet reported ends the decoder's work: one
LINE_STUCK notice is made, a capture's buffer returns to the list, and the decoder drains until the mark ends. A space
that reaches its threshold ends a DRAIN in HUNT; in SYMBOLS it ends the frame, good with bits_min bits or more and then
handed to the sequencer and the press tracker, SHORT with fewer, BROKEN where the encoding says so; in REPEAT_TAIL it
completes the repeat code, which the press tracker takes; in CAPTURE it ends the capture, which the capture writer then
writes. In SPACE_CHECK it makes the burst unclassified: with its space at settle silence or beyond it has ended, a
capture of the one pair where the claim gave a buffer; short of that it goes on in CAPTURE, its space running, or in
DRAIN. A crossing is what `takeCrossing` makes of it whenever it leads to no further one at once. Nothing is reported
while an excursion is pending (one that began before a threshold named late was reached too, log entry 33; the report at
the withdrawal of the blind condition is `ReceiveTimersExpire`), before the threshold is reached, or a second time for
one mark. A capture that ends while a discarded write holds the capture writer's place waits there (log entry 13). -/
def Obligations.ThresholdCrossingActs : Prop :=
  ∀ (l : Lane) (s : State) (f : InputFilter), (s.lane l).filter = some f →
    let x := s.lane l
    let ran := s.clock - f.firstEdge
    let acts (t : State) : Prop := exec (.thresholdCrossing l) s = .next (chooseEvent t)
    let quiet (u : State) (g : InputFilter) : Prop :=
      ∀ n, u.namedThreshold l g.mark = some n → s.clock < g.firstEdge + n ∨ g.mark = true ∧ g.stuckReported = true
    (f.excursion.isSome ∨ quiet s f → acts s) ∧
    (∀ n, f.excursion = none → s.namedThreshold l f.mark = some n → f.firstEdge + n ≤ s.clock →
      ¬ (f.mark = true ∧ f.stuckReported = true) →
      let u := takeCrossing l f.mark f.firstEdge n s
      (∀ g, (u.lane l).filter = some g → quiet u g) → acts u) ∧
    (f.excursion = none → f.firstEdge ≤ s.clock →
      (f.mark = true → f.stuckReported = false → x.decoder ≠ .off → x.decoder ≠ .blind →
        x.decoder ≠ .drain .stuck → (∀ a b c, x.decoder ≠ .spaceCheck a b c) → 65535 ≤ ran →
        let notified := enterOutbox l
          { kind := .notice, status := .lineStuck, target := x.settings.defaultEq, profile := 0, bitCount := 0,
            payload := 0, phase := .single, wake := false, repeatCount := 0, tag := 0, aux := 0,
            timestamp := BitVec.ofNat 32 f.firstEdge, lost := 0 }
          { s.setLane l { x with filter := some { f with stuckReported := true } } with
            captureList := s.captureList ++ x.decoder.buffer.toList }
        acts (notified.setLane l { notified.lane l with decoder := .drain .stuck })) ∧
      (f.mark = false →
        (∀ n, x.decoder = .drain (.profile n) → n ≤ ran → acts (hunting l s)) ∧
        (x.decoder = .drain .settle → x.settings.settleSilence ≤ ran → acts (hunting l s)) ∧
        (∀ start i scale part, x.decoder = .symbols start i scale part →
          (s.profile i).endSilence * scale / 256 ≤ ran →
          (∀ ended, silence (s.profile i) part = .ok ended → (s.profile i).bitsMin ≤ ended.count →
            acts (hunting l
              (takeGoodFrame l { profile := i, bitCount := ended.count, payload := ended.payload, start := start }
                (bump l .framesGood s)))) ∧
          (∀ ended, silence (s.profile i) part = .ok ended → ended.count < (s.profile i).bitsMin →
            acts (hunting l (frameInError l .short i start ended s))) ∧
          (∀ last, silence (s.profile i) part = .broken last →
            acts (hunting l (frameInError l .broken i start last s))) ∧
          (∀ last, silence (s.profile i) part = .long last →
            acts (hunting l (frameInError l .long i start last s)))) ∧
        (∀ start i scale, x.decoder = .repeatTail start i scale → (s.profile i).endSilence * scale / 256 ≤ ran →
          acts (takeRepeatCode l i start (hunting l s))) ∧
        (∀ w m, x.decoder = .capture w → w.openMark = some m → x.settings.settleSilence ≤ ran →
          acts (hunting l (passed l w.buffer w.start .ok (w.pairs ++ [⟨m, x.settings.settleSilence⟩]) s))) ∧
        (∀ start m cs b u, x.decoder = .spaceCheck start m cs → spaceThreshold s cs ≤ ran → Claimed l s b u →
          (x.settings.settleSilence ≤ ran →
            acts (hunting l (single l b start m u))) ∧
          (ran < x.settings.settleSilence →
            (∀ w, b = some w →
              acts (u.setLane l
                { u.lane l with
                  decoder := .capture { buffer := w, start := start, pairs := [], openMark := some m } })) ∧
            (b = none → acts (u.setLane l { u.lane l with decoder := .drain .settle }))))))

/-- An event that enters an outbox with fewer than 4 events is appended with the lost count, which returns to 0. A full
outbox discards it: the lost count and LOST_EVENTS rise by 1, stopping at their largest values, and a CAPTURE's buffer
goes back to the list. A FRAME event of the press tracker first restarts the gate window while the gate of a guarded
lane is OPEN. Every lane counter stops at its largest value. (That an event kept for its write at a RESET_LANE is not
one of the 4 is the model's reading, log entry 14.) -/
def Obligations.OutboxTakesOrDiscards : Prop :=
  ∀ (l : Lane) (ev : RxEvent) (s : State),
    let x := s.lane l
    let counted (c : LaneCounter) : LaneState :=
      { x with
        counters :=
          x.counters.set c.index.val (BitVec.ofNat 32 (min ((x.counter c).toNat + 1) (2 ^ 32 - 1))) }
    let lost : State :=
      s.setLane l
        { counted .lostEvents with
          outbox := { x.outbox with lost := BitVec.ofNat 8 (min (x.outbox.lost.toNat + 1) 255) } }
    (∀ c, bump l c s = s.setLane l (counted c)) ∧
    (x.outbox.events.length < 4 →
      enterOutbox l ev s =
        s.setLane l
          { x with
            outbox :=
              { x.outbox with lost := 0, events := x.outbox.events ++ [{ ev with lost := x.outbox.lost }] } }) ∧
    (4 ≤ x.outbox.events.length →
      (ev.kind ≠ .capture → enterOutbox l ev s = lost) ∧
      (ev.kind = .capture → enterOutbox l ev s = { lost with captureList := s.captureList ++ [ev.aux] })) ∧
    makeFrame l ev s =
      enterOutbox l ev
        (if x.settings.guarded = true ∧ x.gateOpen = true then
          s.setLane l { x with gateDue := some (s.clock + x.settings.guardWindow * 1000) }
        else s)

/-- What the press tracker does with a frame or a repeat code that continues the open press: one more repeat, the held
duration longer by the time since the last one, last_time and the repeat window renewed, both counts saturating; an EACH
press that is DELIVERING also makes its REPEAT event. A repeat code moves REPEATS, a collapsing frame no counter; a
repeat code without an open press of its profile moves ORPHANS and changes nothing else. -/
def Obligations.RepeatsRenewThePress : Prop :=
  ∀ (l : Lane) (i : SlotId) (start : Moment) (s : State),
    let x := s.lane l
    (∀ p, x.press = some p → p.profile = i →
      let renewed : Press :=
        { p with
          repeatCount := BitVec.ofNat 16 (min (p.repeatCount.toNat + 1) 65535)
          heldDuration := BitVec.ofNat 32
            (min (p.heldDuration.toNat + (BitVec.ofNat 32 start - p.lastTime).toNat) (2 ^ 32 - 1))
          lastTime := BitVec.ofNat 32 start, windowDue := start + (s.profile i).repeatWindow * 1000 }
      let counted : State := s.setLane l { x with press := some renewed }
      let after : State :=
        if p.action = .each ∧ p.delivering = true then
          makeFrame l
            { kind := .frame, status := .ok, target := p.target, profile := i, bitCount := p.bitCount,
              payload := p.payload, phase := .repeat_, wake := false, repeatCount := renewed.repeatCount,
              tag := p.tag, aux := 0, timestamp := BitVec.ofNat 32 start, lost := 0 } counted
        else counted
      takeRepeatCode l i start s = bump l .repeats after ∧
      ∀ f : GoodFrame, f.profile = i → f.bitCount = p.bitCount → f.payload = p.payload → f.start = start →
        (s.profile i).collapseIdentical = true → takeFrame l f s = after) ∧
    ((∀ p, x.press = some p → p.profile ≠ i) → takeRepeatCode l i start s = bump l .orphans s)

/-- A lookup answers with the first entry in index order that is valid, names the frame's lane and profile, and compares
equal in every payload bit of its mask, and that entry's hit count rises by one, saturating; with no such entry the
lane's default answers and no hit count moves. -/
def Obligations.LookupTakesFirstHit : Prop :=
  ∀ (l : Lane) (f : GoodFrame) (s : State),
    let hits (i : EntryId) (m : Filter) : Prop :=
      (s.entry i).filter = some m ∧ m.lanes.getLsbD l.val = true ∧ m.profile = f.profile ∧
        ∀ k : Nat, k < 64 → (f.payload.getLsbD k && m.mask.getLsbD k) = m.value.getLsbD k
    (∀ i m, hits i m → (∀ j, j < i → ∀ m', ¬ hits j m') →
      lookup l f s =
        ({ action := m.action, target := m.target, tag := m.tag },
          s.setEntry i { filter := some m,
                         hits := BitVec.ofNat 32 (min ((s.entry i).hits.toNat + 1) (2 ^ 32 - 1)) })) ∧
    ((∀ i m, ¬ hits i m) →
      lookup l f s =
        ({ action := if (s.lane l).settings.defaultDeliver then .deliver else .drop,
           target := (s.lane l).settings.defaultEq, tag := 0 }, s))

/-- A good frame that does not collapse into the open press begins a new one. It closes an open press first. The lookup
then answers `v`. On an unguarded lane, or with the gate OPEN, the events of R76 for the first frame are made; with the
gate CLOSED a WAKE opens it and makes its wake event, and any other press is judged silently. A context opens when the
profile continues presses and the action is not DROP, with the END it owes. -/
def Obligations.NewPressIsJudged : Prop :=
  ∀ (l : Lane) (f : GoodFrame) (s : State),
    let x := s.lane l
    (∀ p, x.press = some p →
      ¬ (p.profile = f.profile ∧ (s.profile f.profile).collapseIdentical = true ∧ p.bitCount = f.bitCount ∧
        p.payload = f.payload) →
      takeFrame l f s = takeFrame l f (closed l p s)) ∧
    ∀ (v : Verdict) (t : State), x.press = none → lookup l f s = (v, t) →
      let continues := (s.profile f.profile).repeatMark ≠ 0 ∨ (s.profile f.profile).collapseIdentical = true
      let delivers := x.settings.guarded = false ∨ x.gateOpen = true
      let event (phase : PressPhase) (wake : Bool) (time : Moment) (u : State) : State :=
        makeFrame l
          { kind := .frame, status := .ok, target := v.target, profile := f.profile, bitCount := f.bitCount,
            payload := f.payload, phase := phase, wake := wake, repeatCount := 0, tag := v.tag, aux := 0,
            timestamp := BitVec.ofNat 32 time, lost := 0 } u
      let opens (delivering endOwed : Bool) (u : State) : State :=
        u.setLane l
          { u.lane l with
            press :=
              some { profile := f.profile, bitCount := f.bitCount, payload := f.payload,
                     firstTime := BitVec.ofNat 32 f.start, lastTime := BitVec.ofNat 32 f.start, heldDuration := 0,
                     repeatCount := 0, action := v.action, target := v.target, tag := v.tag,
                     delivering := delivering, endOwed := endOwed,
                     windowDue := f.start + (s.profile f.profile).repeatWindow * 1000 } }
      let woken : State := t.setLane l { t.lane l with gateOpen := true }
      (v.action = .drop → takeFrame l f s = t) ∧
      (v.action = .count →
        (continues → takeFrame l f s = opens (decide delivers) false t) ∧
        (¬ continues → takeFrame l f s = t)) ∧
      (delivers → continues →
        (v.action = .deliver → takeFrame l f s = opens true false (event .single false f.start t)) ∧
        (v.action = .end_ → takeFrame l f s = opens true true t) ∧
        (v.action = .press ∨ v.action = .each →
          takeFrame l f s = opens true false (event .press false f.start t)) ∧
        (v.action = .both ∨ v.action = .wake →
          takeFrame l f s = opens true true (event .press false f.start t))) ∧
      (delivers → ¬ continues →
        (v.action = .end_ → takeFrame l f s = event .end_ false s.clock t) ∧
        (v.action = .press ∨ v.action = .both ∨ v.action = .each ∨ v.action = .wake ∨ v.action = .deliver →
          takeFrame l f s = event .single false f.start t)) ∧
      (¬ delivers → v.action = .wake →
        (continues → takeFrame l f s = opens true false (event .single true f.start woken)) ∧
        (¬ continues → takeFrame l f s = event .single true f.start woken)) ∧
      (¬ delivers →
        v.action = .press ∨ v.action = .end_ ∨ v.action = .both ∨ v.action = .each ∨ v.action = .deliver →
        (continues → takeFrame l f s = opens false (decide (v.action = .end_ ∨ v.action = .both)) t) ∧
        (¬ continues → takeFrame l f s = t))

/-- A capture buffer's way to the host. POST_CAPTURE_BUFFER with an aligned address: with the held count below 16 the
address is appended at the tail of the list, the held count rises by 1 and the command ends OK; at 16 it ends LIST_FULL
and the list is unchanged. When the write of a finished capture ends, one CAPTURE event is made, its status that of the
capture, or WRITE_ERROR after a bus error, and the capture writer is free; a write whose capture RESET_LANE dropped only
frees its place, for which a later capture that waited asks now (log entry 13). -/
def Obligations.CaptureBuffersPostedAndReported : Prop :=
  (∀ (tag : Half) (address : Word) (s : State) (adm : AdminQueue), EntryRead s adm → address.toNat % 4 = 0 →
    let t := taken s adm
    (s.heldCount < 16 →
      exec (.postCaptureBuffer tag address) s = .next
        (chooseEvent
          (answered { t with captureList := s.captureList ++ [address], heldCount := s.heldCount + 1 } .ok tag 0 0))) ∧
    (16 ≤ s.heldCount →
      exec (.postCaptureBuffer tag address) s = .next (chooseEvent (answered t .listFull tag 0 0)))) ∧
  ∀ (l : Lane) (busError : Bool) (s : State),
    let x := s.lane l
    let free := s.setBus (.captureWriter l) .idle
    (∀ c, Outstanding s (.captureWriter l) (.captureBuffer false) → x.capture = some c →
      exec (.captureWriteEnd l busError) s = .next
        (chooseEvent
          (enterOutbox l
            { kind := .capture, status := if busError then .writeError else c.status,
              target := x.settings.defaultEq, profile := 0, bitCount := c.pairs.length, payload := 0,
              phase := .single, wake := false, repeatCount := 0, tag := 0, aux := c.buffer,
              timestamp := BitVec.ofNat 32 c.start, lost := 0 }
            (free.setLane l { x with capture := none })))) ∧
    (Outstanding s (.captureWriter l) (.captureBuffer true) →
      (x.capture = none → exec (.captureWriteEnd l busError) s = .next (chooseEvent free)) ∧
      ∀ c, x.capture = some c →
        exec (.captureWriteEnd l busError) s = .next
          (chooseEvent (s.setBus (.captureWriter l) (.pending (captureWriteOf c)))))

/-- The receive side's timers. A press closes at the end of its repeat window; a gate closes at the end of its window;
the blind condition is withdrawn when the echo guard ends: the decoder enters HUNT and the interval in progress will not
be handed. None acts before its moment. A mark that is past the stuck-mark limit at the withdrawal and has not been
reported is reported at once, LINE_STUCK with its first edge, and the decoder drains until it ends. It is not reported
then while an excursion is pending that began before the limit was reached (the model's reading, log entry 33), nor
where the entry into HUNT starts a deferred transmission (the model's choice, log entry 31). -/
def Obligations.ReceiveTimersExpire : Prop :=
  ∀ (l : Lane) (s : State),
    let x := s.lane l
    let seen (f : InputFilter) : InputFilter := { f with handed := false, unblinded := some s.clock }
    let clear := s.setLane l { x with blind := false, echoDue := none, filter := x.filter.map seen }
    let late (f : InputFilter) : Prop :=
      f.mark = true ∧ f.stuckReported = false ∧ f.firstEdge + 65535 ≤ s.clock ∧
        ∀ e, f.excursion = some e → f.firstEdge + 65535 ≤ e
    (∀ p, x.press = some p →
      (p.windowDue ≤ s.clock → exec (.repeatWindowExpiry l) s = .next (chooseEvent (closed l p s))) ∧
      (s.clock < p.windowDue → exec (.repeatWindowExpiry l) s = .next s)) ∧
    (∀ due, x.gateDue = some due →
      (due ≤ s.clock →
        exec (.gateWindowExpiry l) s = .next (s.setLane l { x with gateOpen := false, gateDue := none })) ∧
      (s.clock < due → exec (.gateWindowExpiry l) s = .next s)) ∧
    (∀ due, x.echoDue = some due →
      (due ≤ s.clock → exec (.echoGuardExpiry l) s = .next (chooseEvent (withdrawBlind l s))) ∧
      (s.clock < due → exec (.echoGuardExpiry l) s = .next s)) ∧
    (x.blind = false → withdrawBlind l s = s.setLane l { x with echoDue := none }) ∧
    (x.blind = true → (∀ f, x.filter = some f → ¬ late f) → withdrawBlind l s = hunting l clear) ∧
    ∀ f, x.blind = true → x.filter = some f → late f →
      (x.seq.state ≠ .defer →
        let notified := enterOutbox l
          { kind := .notice, status := .lineStuck, target := x.settings.defaultEq, profile := 0, bitCount := 0,
            payload := 0, phase := .single, wake := false, repeatCount := 0, tag := 0, aux := 0,
            timestamp := BitVec.ofNat 32 f.firstEdge, lost := 0 }
          (clear.setLane l { clear.lane l with filter := some { seen f with stuckReported := true } })
        withdrawBlind l s = notified.setLane l { notified.lane l with decoder := .drain .stuck }) ∧
      (x.seq.state = .defer → x.seq.active.isSome → x.settings.mode = .shared → withdrawBlind l s = hunting l clear)

/-! ## Transmit side -/

/-- A request entry read ends. The head advances by one, modulo size, and the entry is taken: during a flush it is
answered ABORTED; otherwise a kind field that names no kind, then the first field out of range that the kind uses, then
a lane mode that does not admit the kind, answers it with UNKNOWN_KIND, FIELD_RANGE or MODE_CONFLICT; an entry that
passes waits for its activation. A read that ends with a bus error takes nothing: the queue is FAULTED, one QUEUE_FAULT
completion is made, and a flush ends with it. (That DISABLED admits no kind is the model's choice, log entry 27; no
entry is validated there. That a flushed entry's completion names its field 4 as profile is the model's reading, log
entry 24.) -/
def Obligations.RequestEntryReadEnds : Prop :=
  ∀ (l : Lane) (e : RequestEntry) (s : State), Outstanding s (.sequencer l) .requestEntry →
    let x := s.lane l
    let free := s.setBus (.sequencer l) .idle
    let ends (q : Sequencer) : Prop :=
      exec (.requestEntryReadEnd l e) s = .next
        (chooseEvent
          (free.setLane l
            { x with queue := { x.queue with head := (x.queue.head + 1) % x.queue.size }, seq := q }))
    let refusal (status : Code) (profile : Byte) (detail : Nat) : Sequencer :=
      posting x.seq (completion s l status e.tag profile 0 (BitVec.ofNat 8 detail))
    (∀ a, x.seq.abort = some a →
      ends { refusal .aborted e.profile 0 with
             abort := some { remaining := a.remaining - 1, aborted := a.aborted + 1 } }) ∧
    (x.seq.abort = none →
      (e.kind.toNat = 0 ∨ 5 ≤ e.kind.toNat → ends (refusal .unknownKind 0 0)) ∧
      ∀ k : RequestKind, 1 ≤ e.kind.toNat →
        [RequestKind.send, .raw, .hold, .exchange][e.kind.toNat - 1]? = some k →
        let admitted := x.settings.mode = .shared ∨ x.settings.mode = .split ∨
          x.settings.mode = .txOnly ∧ k ≠ .exchange
        (∀ n, firstBad (requestChecks k e) = some n → ends (refusal .fieldRange 0 n)) ∧
        (firstBad (requestChecks k e) = none → ¬ admitted → ends (refusal .modeConflict e.profile 0)) ∧
        (firstBad (requestChecks k e) = none → admitted → ends { x.seq with taken := some e })) ∧
    (x.queue.state ≠ .absent →
      exec (.requestReadError l) s = .next
        (chooseEvent
          (free.setLane l
            { x with
              queue := { x.queue with state := .faulted },
              seq :=
                { posting x.seq (completion s l .queueFault 0 0 0 0) with
                  abort := x.seq.abort.map fun a => { a with remaining := 0 } } })))

/-- The activation claim of the entry in FETCH. A slot it names that is not VALID answers it PROFILE_INVALID and the
request does not become active. With every slot VALID the request is active, and is checked against the profile's
fields: the bit count against bits_min and bits_max (detail 5), repeat_form CODE against a profile without a repeat code
(detail 7), and the reply profile's leader_mark. A RAW request that passes asks for its pair list, or waits to ask while
a discarded list read holds its place at the bus port (log entry 13); any other waits for the line-free time. -/
def Obligations.ActivationClaimsSlots : Prop :=
  ∀ (l : Lane) (e : RequestEntry) (k : RequestKind) (s : State), (s.lane l).seq.taken = some e →
    1 ≤ e.kind.toNat → [RequestKind.send, .raw, .hold, .exchange][e.kind.toNat - 1]? = some k →
    let x := s.lane l
    let named : List Byte := match k with
      | .send | .hold => [e.profile]
      | .exchange => [e.profile, e.replyProfile]
      | .raw => if e.profile.toNat = 255 then [] else [e.profile]
    let valid (b : Byte) : Prop := ∃ i : SlotId, i.val = b.toNat ∧ ∃ p, s.slot i = .valid p
    let p := s.requestProfile e
    let r : ActiveRequest :=
      { entry := e, kind := k, pairs := [], started := 0, firstStart := none, lastStart := 0, endCause := none,
        holdPeriod :=
          if p.framePeriod = 0 then duration (frameForm p e.payload e.bitCount.toNat) + p.minGap
          else p.framePeriod }
    let ends (q : Sequencer) : Prop :=
      exec (.activation l) s = .next (chooseEvent (s.setLane l { x with seq := q }))
    let fails (status : Code) (detail : Byte) : Prop :=
      ends { posting x.seq (completion s l status e.tag e.profile 0 detail) with active := some r }
    let counted := p.bitsMin ≤ e.bitCount.toNat ∧ e.bitCount.toNat ≤ p.bitsMax
    let codeless := k = .send ∧ e.repeatForm.toNat = 1 ∧ p.repeatMark = 0
    let leaderless := k = .exchange ∧ (s.profile (toSlot e.replyProfile)).leaderMark = 0
    (∀ b ∈ named, b.toNat ≤ 15) →
    ((∃ b ∈ named, ¬ valid b) → ends (posting x.seq (completion s l .profileInvalid e.tag e.profile 0 0))) ∧
    ((∀ b ∈ named, valid b) →
      (k ≠ .raw → ¬ counted → fails .fieldRange 5) ∧ (counted → codeless → fails .fieldRange 7) ∧
      (counted → leaderless → fails .profileInvalid 0) ∧
      (k ≠ .raw → counted → ¬ codeless → ¬ leaderless →
        ends { x.seq with state := .gap, taken := none, active := some r,
                          spacingDue := some (x.seq.lineFree.getD s.clock) }) ∧
      (k = .raw →
        exec (.activation l) s = .next
          (chooseEvent
            (asked (.sequencer l)
              { purpose := .pairList false, address := e.listAddress, length := 4 * e.pairCount.toNat, data := [] }
              (s.setLane l
                { x with seq := { x.seq with state := .listFetch, taken := none, active := some r } })))))

/-- The pair list of a RAW request arrives. It passes when every mark is 1 µs or more and only the last space is 0; it
is then kept for the request, which waits for the line-free time. A list that fails completes the request FIELD_RANGE
with detail 9, and a bus error completes it FETCH_ERROR. A read whose result an abort discarded only frees its place,
and an entry read that waited for the place asks now (log entry 13), whatever the tail is then (the model's choice, log
entry 34). -/
def Obligations.PairListReadEnds : Prop :=
  ∀ (l : Lane) (s : State),
    let x := s.lane l
    let free := s.setBus (.sequencer l) .idle
    (∀ r : ActiveRequest, Outstanding s (.sequencer l) (.pairList false) → x.seq.state = .listFetch →
      x.seq.active = some r →
      (∀ pairs : List RawPair, pairs.length = r.entry.pairCount.toNat →
        let passes := (∀ p ∈ pairs, 1 ≤ p.mark.toNat) ∧ ∀ p ∈ pairs.dropLast, 1 ≤ p.space.toNat
        (passes →
          exec (.pairListReadEnd l (some pairs)) s = .next
            (chooseEvent
              (free.setLane l
                { x with
                  seq := { x.seq with state := .gap, active := some { r with pairs := pairs },
                                      spacingDue := some (x.seq.lineFree.getD s.clock) } }))) ∧
        (¬ passes →
          exec (.pairListReadEnd l (some pairs)) s = .next
            (chooseEvent
              (free.setLane l
                { x with
                  seq := posting x.seq (completion s l .fieldRange r.entry.tag r.entry.profile r.started 9) })))) ∧
      exec (.pairListReadEnd l none) s = .next
        (chooseEvent
          (free.setLane l
            { x with
              seq := posting x.seq (completion s l .fetchError r.entry.tag r.entry.profile r.started 0) }))) ∧
    ∀ result : Option (List RawPair), Outstanding s (.sequencer l) (.pairList true) →
      (x.seq.state = .fetch →
        exec (.pairListReadEnd l result) s = .next
          (chooseEvent
            (s.setBus (.sequencer l)
              (.pending { purpose := .requestEntry, address := x.queue.base + 64 * BitVec.ofNat 32 x.queue.head,
                          length := 64, data := [] })))) ∧
      (x.seq.state ≠ .fetch → x.seq.state ≠ .listFetch →
        exec (.pairListReadEnd l result) s = .next (chooseEvent free))

/-- The spacing timer runs out. Before a first transmission on a SHARED lane whose decoder is not in HUNT the request
enters DEFER, its defer timer started unless defer_limit is 0; in every other case, in GAP or HOLDING, the next
transmission starts. The timer does not act before its moment. The line forms it sends: a PDIST or PWIDTH frame interval
by interval; a BIPHASE frame by its level at every µs, neighbouring halves of one level being one interval and the last
interval a mark; the repeat code with its closing mark; and a RAW list without the last pair's space. -/
def Obligations.SpacingTimerStartsOrDefers : Prop :=
  (∀ (p : Profile) (payload : Payload) (k : Nat),
    let form := frameForm p payload k
    let leader : List Machine.Interval :=
      if p.leaderMark = 0 then [] else [⟨true, p.leaderMark⟩, ⟨false, p.leaderSpace⟩]
    let halves : List Machine.Interval :=
      (List.range k).flatMap fun i =>
        let first := payload.getLsbD i == (p.polarity == .markFirstIsOne)
        [⟨first, p.mark0⟩, ⟨!first, p.mark0⟩]
    (p.encoding = .pdist →
      form =
        leader ++
          ((List.range k).flatMap fun i =>
            [⟨true, p.mark0⟩, ⟨false, if payload.getLsbD i = true then p.space1 else p.space0⟩]) ++
          [⟨true, p.trailerMark⟩]) ∧
    (p.encoding = .pwidth →
      form =
        leader ++
          ((List.range k).map fun i =>
            (⟨true, if payload.getLsbD i = true then p.mark1 else p.mark0⟩ : Machine.Interval)).intersperse
              ⟨false, p.space0⟩ ++
          if p.trailerMark = 0 then [] else [⟨false, p.space0⟩, ⟨true, p.trailerMark⟩]) ∧
    (p.encoding = .biphase →
      (∀ d, markAt form d = markAt (leader ++ halves) d) ∧
      (∀ (i : Nat) a b, form[i]? = some a → form[i + 1]? = some b → a.mark ≠ b.mark) ∧
      ∀ a, form.getLast? = some a → a.mark = true)) ∧
  (∀ p : Profile,
    repeatForm p =
      [⟨true, p.repeatMark⟩, ⟨false, p.repeatSpace⟩,
        ⟨true, if p.trailerMark = 0 then p.repeatMark else p.trailerMark⟩]) ∧
  (∀ (pairs : List RawPair) (q : RawPair),
    rawForm (pairs ++ [q]) =
      (pairs.flatMap fun r => [⟨true, r.mark.toNat⟩, ⟨false, r.space.toNat⟩]) ++ [⟨true, q.mark.toNat⟩]) ∧
  ∀ (l : Lane) (s : State) (r : ActiveRequest) (due : Moment),
    (s.lane l).seq.spacingDue = some due → (s.lane l).seq.active = some r →
    let x := s.lane l
    let busy := x.settings.mode = .shared ∧ ∀ since, x.decoder ≠ .hunt since
    (s.clock < due → exec (.spacingTimerExpiry l) s = .next s) ∧
    (due ≤ s.clock →
      (x.seq.state = .gap → r.started = 0 → busy →
        exec (.spacingTimerExpiry l) s = .next
          (s.setLane l
            { x with
              seq :=
                { x.seq with
                  state := .defer, spacingDue := none,
                  deferDue := if x.settings.deferLimit = 0 then none
                    else some (s.clock + x.settings.deferLimit * 1000) } })) ∧
      (x.seq.state = .gap ∧ ¬ (r.started = 0 ∧ busy) ∨ x.seq.state = .holding →
        exec (.spacingTimerExpiry l) s = .next (onAir l r false s)))

/-- What a lane's output pin does, `sub` ticks of 1/12 µs after the present reading of the time base. Without a
transmission it is idle, opposite to the active level. A transmission drives its intervals back to back from its start:
a space is idle, an unmodulated mark active, and a modulated mark carrier cycles of high ticks active and low ticks
idle, counted from the mark's own start; after the last interval it is idle. An engine stop leaves it idle at the level
the lane's settings give, and an engine reset low. -/
def Obligations.OutputDrivesTransmission : Prop :=
  ∀ (s : State) (l : Lane) (sub : Nat),
    let x := s.lane l
    let active := x.settings.outputHigh
    (x.tx = none → s.outputPin l sub = !active) ∧
    (∀ t, x.tx = some t →
      let tick := 12 * (s.clock - t.start) + sub
      (12 * (t.intervals.map Machine.Interval.length).sum ≤ tick → s.outputPin l sub = !active) ∧
      ∀ before i after, t.intervals = before ++ i :: after →
        let first := 12 * (before.map Machine.Interval.length).sum
        first ≤ tick → tick < first + 12 * i.length →
        (i.mark = false → s.outputPin l sub = !active) ∧
        (i.mark = true → t.carrierHigh = 0 → t.carrierLow = 0 → s.outputPin l sub = active) ∧
        (i.mark = true → 0 < t.carrierHigh + t.carrierLow →
          s.outputPin l sub =
            if (tick - first) % (t.carrierHigh + t.carrierLow) < t.carrierHigh then active else !active)) ∧
    (∀ word u, word.getLsbD 0 = false → word.getLsbD 1 = false → s.engine = .running →
      exec (.engineStop word) s = .next u → u.outputPin l sub = !active) ∧
    ∀ word u, word.getLsbD 1 = true → exec (.engineReset word) s = .next u → u.outputPin l sub = false

/-- A transmission ends. The output is idle and the line-free time lies the gap of its profile away (of a RAW list, the
greater of that and the last pair's space); on a SHARED lane the echo guard is counted, or with echo_guard 0 the blind
condition withdrawn at once. A SEND or RAW series then waits for its next start or completes OK; a HOLD completes with
its end cause, or waits for its next start; an EXCHANGE listens for its reply. (The event writer's one choice at the end
is log entry 9.) -/
def Obligations.TransmissionEndsOnLine : Prop :=
  ∀ (l : Lane) (s : State) (r : ActiveRequest) (t : Transmission),
    (s.lane l).tx = some t → (s.lane l).seq.active = some r →
    (s.lane l).seq.state = .sending ∨ (s.lane l).seq.state = .ending →
    let x := s.lane l
    let p := s.requestProfile r.entry
    let gap := if r.kind = .raw then max (lastSpace r.pairs) p.minGap else p.minGap
    let next := if r.kind = .raw then s.clock + gap
      else max (s.clock + p.minGap) (if p.framePeriod = 0 then s.clock else r.lastStart + p.framePeriod)
    let left : LaneState := { x with tx := none, seq := { x.seq with lineFree := some (s.clock + gap) } }
    let off : State :=
      if x.settings.mode = .shared then
        if x.settings.echoGuard = 0 then withdrawBlind l (s.setLane l left)
        else s.setLane l { left with echoDue := some (s.clock + x.settings.echoGuard) }
      else s.setLane l left
    let ends (f : Sequencer → Sequencer) : Prop :=
      exec (.transmissionEnd l) s = .next
        (chooseEvent (off.setLane l { off.lane l with seq := f (off.lane l).seq }))
    let done (status : Code) : Prop :=
      ends fun q => posting q (completion s l status r.entry.tag r.entry.profile r.started 0)
    let ended := t.start + (t.intervals.map Machine.Interval.length).sum
    (s.clock < ended → exec (.transmissionEnd l) s = .next (chooseEvent s)) ∧
    (ended ≤ s.clock →
      (r.kind = .send ∨ r.kind = .raw →
        (r.started.toNat ≤ r.entry.repeats.toNat →
          ends fun q => { q with state := .gap, spacingDue := some next }) ∧
        (r.entry.repeats.toNat < r.started.toNat → done .ok)) ∧
      (r.kind = .hold →
        (∀ cause, r.endCause = some cause → done cause) ∧
        (r.endCause = none →
          ends fun q =>
            { q with state := .holding,
                     spacingDue := some (max (r.lastStart + r.holdPeriod) (s.clock + p.minGap)) })) ∧
      (r.kind = .exchange →
        ends fun q =>
          { q with state := .listen, replyDue := some (s.clock + r.entry.replyWindow.toNat * 1000) }))

/-- The defer timer and the hold limit. A POLITE request whose defer timer runs out completes LINE_BUSY; any other
starts at once, which counts a collision. The hold limit gives a HOLD the end cause HOLD_LIMIT and ends it, in SENDING
by ENDING, its transmission running on, and in HOLDING at once; in ENDING it changes nothing. None acts before its
moment. -/
def Obligations.DeferAndHoldLimitExpire : Prop :=
  ∀ (l : Lane) (s : State) (r : ActiveRequest), (s.lane l).seq.active = some r →
    let x := s.lane l
    let done (status : Code) : State :=
      s.setLane l { x with seq := posting x.seq (completion s l status r.entry.tag r.entry.profile r.started 0) }
    (∀ due, x.seq.deferDue = some due →
      (s.clock < due → exec (.deferTimerExpiry l) s = .next (chooseEvent s)) ∧
      (due ≤ s.clock → x.seq.state = .defer →
        (r.entry.flags.getLsbD 0 = true → exec (.deferTimerExpiry l) s = .next (chooseEvent (done .lineBusy))) ∧
        (r.entry.flags.getLsbD 0 = false →
          exec (.deferTimerExpiry l) s = .next (chooseEvent (onAir l r true s))))) ∧
    ∀ due, x.seq.limitDue = some due →
      (s.clock < due ∨ x.seq.state = .ending → exec (.holdLimitExpiry l) s = .next (chooseEvent s)) ∧
      (due ≤ s.clock → x.seq.state = .sending →
        exec (.holdLimitExpiry l) s = .next
          (chooseEvent
            (s.setLane l
              { x with
                seq := { x.seq with state := .ending, active := some { r with endCause := some .holdLimit },
                                    limitDue := none } }))) ∧
      (due ≤ s.clock → x.seq.state = .holding →
        exec (.holdLimitExpiry l) s = .next
          (chooseEvent
            (s.setLane l
              { x with
                seq :=
                  { posting x.seq (completion s l .holdLimit r.entry.tag r.entry.profile r.started 0) with
                    active := some { r with endCause := some .holdLimit } } })))

/-- An EXCHANGE in LISTEN. A good frame of the reply profile whose payload bits under the reply mask equal the reply
value completes it OK with the frame's bits and start, and goes no further; every other good frame, and every good frame
of a lane whose sequencer is not in LISTEN, goes to the press tracker. When the reply window ends, an attempt that
remains waits for its next start, spaced from the end of the last one; with none left the exchange completes NO_REPLY.
-/
def Obligations.ExchangeMeetsReply : Prop :=
  (∀ (l : Lane) (s : State) (f : GoodFrame), (s.lane l).seq.state ≠ .listen → takeGoodFrame l f s = takeFrame l f s) ∧
  ∀ (l : Lane) (s : State) (r : ActiveRequest),
    (s.lane l).seq.active = some r → (s.lane l).seq.state = .listen → r.kind = .exchange →
    r.entry.replyProfile.toNat ≤ 15 →
    let x := s.lane l
    let p := s.requestProfile r.entry
    (∀ f : GoodFrame,
      let passes := f.profile.val = r.entry.replyProfile.toNat ∧
        ∀ k : Nat, k < 64 → (f.payload.getLsbD k && r.entry.replyMask.getLsbD k) = r.entry.replyValue.getLsbD k
      (passes →
        takeGoodFrame l f s =
          s.setLane l
            { x with
              seq := posting x.seq
                { completion s l .ok r.entry.tag r.entry.profile r.started 0 with
                  bitCount := f.bitCount, payload := f.payload, timestamp := BitVec.ofNat 32 f.start } }) ∧
      (¬ passes → takeGoodFrame l f s = takeFrame l f s)) ∧
    ∀ due, x.seq.replyDue = some due →
      let ended := due - r.entry.replyWindow.toNat * 1000
      (s.clock < due → exec (.replyWindowExpiry l) s = .next (chooseEvent s)) ∧
      (due ≤ s.clock → r.started.toNat < r.entry.attempts.toNat →
        exec (.replyWindowExpiry l) s = .next
          (chooseEvent
            (s.setLane l
              { x with
                seq :=
                  { x.seq with
                    state := .gap, replyDue := none,
                    spacingDue := some (max (ended + p.minGap)
                      (if p.framePeriod = 0 then ended else r.lastStart + p.framePeriod)) } }))) ∧
      (due ≤ s.clock → r.entry.attempts.toNat ≤ r.started.toNat →
        exec (.replyWindowExpiry l) s = .next
          (chooseEvent
            (s.setLane l
              { x with
                seq := posting x.seq (completion s l .noReply r.entry.tag r.entry.profile r.started 0) })))

/-! ## Event writer -/

/-- The event writer's choice while no write is in flight: the first writer from the pointer onward in ring order whose
event targets a RUNNING queue with a free slot. Its event goes out as one write of 32 bytes at the queue's tail, and
nothing else changes. With a write in flight, no such writer, or the engine not RUNNING, nothing changes. (That a
command which makes several offers, or a queue and an offer, ends with one choice over all of them, is the model's
reading, log entry 9.) -/
def Obligations.EventChoiceIsRoundRobin : Prop :=
  ∀ s : State,
    let ring : List Writer :=
      [.commandUnit, .sequencer 0, .sequencer 1, .sequencer 2, .sequencer 3, .outbox 0, .outbox 1, .outbox 2,
        .outbox 3]
    let offers (w : Writer) (q : EqId) : Prop := match w with
      | .commandUnit => q = 0 ∧ ∃ done, s.admin.state = .posting done
      | .sequencer l => ∃ c, (s.lane l).seq.completion = some c ∧ c.target = q
      | .outbox l => ∃ ev rest, (s.lane l).outbox.events = ev :: rest ∧ ev.target = q
    let served (w : Writer) (q : EqId) : Prop :=
      offers w q ∧ (s.eq q).state = .running ∧ (s.eq q).unread < (s.eq q).size
    (s.engine ≠ .running ∨ s.writer.inFlight ≠ none ∨ (∀ w q, ¬ served w q) → chooseEvent s = s) ∧
    ∀ (i : Fin 9) (w : Writer) (q : EqId), s.engine = .running → s.writer.inFlight = none →
      ring[i.val]? = some w → served w q →
      (∀ (j : Fin 9) (v : Writer), (j - s.writer.pointer).val < (i - s.writer.pointer).val →
        ring[j.val]? = some v → ∀ q', ¬ served v q') →
      s.busSlot .eventWriter = .idle →
      chooseEvent s =
        { s with writer := { s.writer with inFlight := some (w, q) } }.setBus .eventWriter
          (.pending { purpose := .event, address := (s.eq q).base + 32 * BitVec.ofNat 32 (s.eq q).tail, length := 32,
                      data := s.eventBytes (s.eq q).phase w })

/-- The event write in flight ends. Acknowledged, the queue moves on by one entry (`ModerationRules` says how), the
pointer stands past the writer served, and the event leaves its writer: the command unit and a sequencer may read their
next entry, a sequencer in a flush reads its next, and the last completion an abort caused is reported to its command,
which a RESET_LANE follows by resetting the lane; a written CAPTURE gives its buffer to the host. With a bus error the
queue is FAULTED, its fault bit set and its holdoff timer cancelled, and the event stays with its writer, but for one
kept at a RESET_LANE, which is discarded. A sequencer that goes on to its next entry while a discarded pair list read
holds its place at the bus port enters FETCH and waits to ask (R100; log entry 13). (The event writer's one choice at
the end is log entry 9.) -/
def Obligations.EventWriteEnds : Prop :=
  ∀ (s : State) (w : Writer) (q : EqId),
    Outstanding s .eventWriter .event → s.writer.inFlight = some (w, q) →
    let ended (place : Fin 9) (e : EventQueue) : State :=
      { (s.setBus .eventWriter .idle).setEq q e with writer := { pointer := place, inFlight := none } }
    let written (place : Fin 9) : State := ended place ((s.eq q).written s.clock)
    let failed (place : Fin 9) : State :=
      ended place { s.eq q with state := .faulted, fault := true, holdoffDue := none }
    let ends (t : State) : Prop := exec .eventWriteEnd s = .next (chooseEvent t)
    let errs (t : State) : Prop := exec .eventWriteError s = .next (chooseEvent t)
    (w = .commandUnit →
      errs (failed 1) ∧
      ∀ adm, s.admin.queue = some adm →
        (adm.head = adm.tail → ends { written 1 with admin := { s.admin with state := .idle } }) ∧
        (adm.head ≠ adm.tail →
          ends (asked .commandUnit (adminAtHead adm) { written 1 with admin := { s.admin with state := .fetch } }))) ∧
    (∀ l : Lane, w = .sequencer l →
      let x := s.lane l
      let place : Fin 9 := ⟨l.val + 2, by omega⟩
      let ended (state : SeqState) (abort : Option AbortWork) : State :=
        (written place).setLane l
          { x with seq := { x.seq with state := state, active := none, completion := none, abort := abort } }
      let reads (t : State) : State := asked (.sequencer l) (entryAtHead x.queue) t
      let more := x.queue.state = .running ∧ x.queue.head ≠ x.queue.tail ∧ x.settings.mode ≠ .disabled
      errs (failed place) ∧
      (x.seq.abort = none → ¬ more → ends (ended .idle none)) ∧
      (x.seq.abort = none → more → ends (reads (ended .fetch none))) ∧
      ∀ a, x.seq.abort = some a →
        (a.remaining ≠ 0 → ends (reads (ended .fetch (some a)))) ∧
        (∀ tag l', a.remaining = 0 → s.admin.state = .executing tag (.laneAbort l' false) →
          (¬ more → ends (answered (ended .idle none) .ok tag 0 a.aborted)) ∧
          (more →
            ends (answered (reads (ended .fetch none)) .ok tag 0 a.aborted))) ∧
        (∀ tag l', a.remaining = 0 → s.admin.state = .executing tag (.laneAbort l' true) →
          ends (answered (resetLane l (ended .idle none)) .ok tag 0 a.aborted))) ∧
    ∀ l : Lane, w = .outbox l →
      let x := s.lane l
      let place : Fin 9 := ⟨(l.val + 6) % 9, by omega⟩
      (∀ ev rest, x.outbox.settling = none → x.outbox.events = ev :: rest →
        let shorter : State := (written place).setLane l { x with outbox := { x.outbox with events := rest } }
        errs (failed place) ∧ (ev.kind ≠ .capture → ends shorter) ∧
        (ev.kind = .capture → ends { shorter with heldCount := s.heldCount - 1 })) ∧
      ∀ ev, x.outbox.settling = some ev →
        let settled (t : State) : State := t.setLane l { x with outbox := { x.outbox with settling := none } }
        (ev.kind ≠ .capture → ends (settled (written place)) ∧ errs (settled (failed place))) ∧
        (ev.kind = .capture →
          ends { settled (written place) with heldCount := s.heldCount - 1 } ∧
          errs { settled (failed place) with captureList := s.captureList ++ [ev.aux] })

/-- Moderation. A write's end moves tail and unread on by one, the phase inverting where tail wraps, and in COUNT and
LATCHED sets the flag at threshold, or else starts the holdoff timer when the flag is clear and no timer runs. An
acknowledgment, unread already reduced, cancels the timer at unread 0 and clears the flag below threshold, in LATCHED
with clear-notice alone; a flag so cleared while a RUNNING queue holds entries starts the timer afresh. The timer's end
sets the flag when unread is 1 or more. A holdoff of 0 starts no timer, and OFF does nothing of this. (That a FAULTED
queue starts no timer is the model's reading, log entry 12.) -/
def Obligations.ModerationRules : Prop :=
  ∀ (e : EventQueue) (notice : Bool) (now : Moment),
    let fresh : Option Moment := if e.holdoff = 0 then none else some (now + e.holdoff)
    let moved : EventQueue :=
      { e with tail := if e.tail + 1 = e.size then 0 else e.tail + 1,
               phase := if e.tail + 1 = e.size then !e.phase else e.phase, unread := e.unread + 1 }
    let kept : EventQueue := if e.unread = 0 then { e with holdoffDue := none } else e
    let cleared : EventQueue :=
      { kept with flag := false,
                  holdoffDue := if e.state = .running ∧ 1 ≤ e.unread then fresh else kept.holdoffDue }
    (e.mode = .off → e.written now = moved ∧ moderateAck e notice now = e) ∧
    (e.mode ≠ .off →
      (e.threshold ≤ e.unread + 1 → e.written now = { moved with flag := true, holdoffDue := none }) ∧
      (e.unread + 1 < e.threshold → e.flag = true ∨ e.holdoffDue ≠ none → e.written now = moved) ∧
      (e.unread + 1 < e.threshold → e.flag = false → e.holdoffDue = none →
        e.written now = { moved with holdoffDue := fresh })) ∧
    (e.mode = .count ∧ e.flag = true ∧ e.unread < e.threshold → moderateAck e notice now = cleared) ∧
    (e.mode = .count ∧ ¬ (e.flag = true ∧ e.unread < e.threshold) → moderateAck e notice now = kept) ∧
    (e.mode = .latched ∧ notice = true ∧ e.flag = true ∧ e.unread < e.threshold →
      moderateAck e notice now = cleared) ∧
    (e.mode = .latched ∧ ¬ (notice = true ∧ e.flag = true ∧ e.unread < e.threshold) →
      moderateAck e notice now = kept) ∧
    ∀ (q : EqId) (due : Moment) (s : State), (s.eq q).holdoffDue = some due →
      (s.clock < due → exec (.holdoffExpiry q) s = .next s) ∧
      (due ≤ s.clock →
        exec (.holdoffExpiry q) s = .next
          (s.setEq q
            { s.eq q with holdoffDue := none, flag := if 1 ≤ (s.eq q).unread then true else (s.eq q).flag }))

/-! ## Records -/

/-- The 32 bytes that go out for the event a writer offers, with the phase bit given: the ADMIN_DONE in the command
unit's posting slot with the admin queue's head, the completion of a lane's sequencer with its request queue's head, the
oldest event of a lane's outbox. Byte 0 holds the phase in bit 7, the press phase in bits 6 and 5, the source lane in
bits 4 and 3 and the kind in bits 2 to 0; every other field lies at its offset, low byte first, and what a kind does not
use is 0. A status byte holds the code's number in the code table (8.7). A capture buffer's write holds four bytes per
pair, mark and space, and a counter four bytes, low byte first. -/
def Obligations.WrittenEventLayout : Prop :=
  ∀ (s : State) (phase : Bool) (l : Lane),
    let top := if phase then 128 else 0
    let two (x : Nat) : List Nat := [x % 256, x / 256 % 256]
    let four (x : Nat) : List Nat := [x % 256, x / 256 % 256, x / 65536 % 256, x / 16777216 % 256]
    let sixteen (x : Nat) : List Nat :=
      four (x % 2 ^ 32) ++ four (x / 2 ^ 32 % 2 ^ 32) ++ four (x / 2 ^ 64 % 2 ^ 32) ++ four (x / 2 ^ 96)
    let numbers (bytes : List Byte) : List Nat := bytes.map BitVec.toNat
    ([Code.ok, .unknownKind, .fieldRange, .profileInvalid, .profileInUse, .queueBusy, .laneBusy, .modeConflict,
        .notHolding, .listFull, .fetchError, .writeError, .aborted, .released, .holdLimit, .noReply, .lineBusy,
        .queueFault].map (fun c => c.number.toNat) = List.range 18 ∧
      [Code.broken, .short, .long, .captureFull, .lineStuck].map (fun c => c.number.toNat) = [32, 33, 34, 35, 36]) ∧
    (∀ pairs : List CapturePair,
      numbers (captureBytes pairs) = pairs.flatMap fun p => two p.mark ++ two p.space) ∧
    (∀ counter : Word, numbers (wordBytes counter) = four counter.toNat) ∧
    (∀ c, (s.lane l).seq.completion = some c →
      numbers (s.eventBytes phase (.sequencer l)) =
        [top + 8 * l.val + 1, c.status.number.toNat, c.profile.toNat, c.bitCount % 256] ++ two c.tag.toNat ++ [0, 0] ++
          four c.timestamp.toNat ++ [(s.lane l).queue.head % 256, c.detail.toNat] ++ two c.count.toNat ++
            sixteen c.payload.toNat) ∧
    (∀ d q, s.admin.state = .posting d → s.admin.queue = some q →
      numbers (s.eventBytes phase .commandUnit) =
        [top + 2, d.status.number.toNat, d.profile.toNat, 0] ++ two d.tag.toNat ++ [0, 0] ++
          four d.timestamp.toNat ++ [q.head % 256, 0] ++ two d.detail.toNat ++ List.replicate 16 0) ∧
    ∀ ev rest, (s.lane l).outbox.events = ev :: rest →
      let kind := match ev.kind with
        | .frame => 3
        | .capture => 4
        | .notice => 5
      let press := match ev.phase with
        | .single => 0
        | .press => 1
        | .repeat_ => 2
        | .end_ => 3
      let status := match ev.kind, ev.status with
        | .frame, .broken => 1
        | .frame, .short => 2
        | .frame, .long => 3
        | .capture, .captureFull => 1
        | .capture, .writeError => 2
        | _, _ => 0
      let wake := if ev.wake then 4 else 0
      numbers (s.eventBytes phase (.outbox l)) =
        [top + 32 * press + 8 * l.val + kind, 16 * ev.profile.val + wake + status, ev.lost.toNat, ev.bitCount % 256] ++
          two ev.tag.toNat ++ two ev.repeatCount.toNat ++ four ev.timestamp.toNat ++ four ev.aux.toNat ++
            sixteen ev.payload.toNat

/-- Where every field of a record the host writes lies, low byte first, whatever the record's other bytes hold: of a
request entry, of an admin entry by its command (a code that names none of the twelve is an unknown command), of a
profile record and of pair i of a list. And reading gives back what was written: every admin command, request entry,
profile record and pair list, whatever its fields hold, is read as itself from the bytes its layout writes, 64 for each
of the first three and four for a pair. -/
def Obligations.RecordsRoundTrip : Prop :=
  (∀ e : List Byte,
    let b (i : Nat) : Byte := e.getD i 0
    let two (i : Nat) : Nat := (b i).toNat + 256 * (b (i + 1)).toNat
    let four (i : Nat) : Nat := two i + 65536 * two (i + 2)
    let eight (i : Nat) : Nat := four i + 2 ^ 32 * four (i + 4)
    let h (i : Nat) : Half := BitVec.ofNat 16 (two i)
    let w (i : Nat) : Word := BitVec.ofNat 32 (four i)
    let m (i : Nat) : Mask := BitVec.ofNat 64 (eight i)
    let command (n : Nat) (c : Instr) : Prop := (b 0).toNat = n → decodeAdminEntry e = c
    decodeRequestEntry e =
      { kind := b 0, flags := b 1, tag := h 2, profile := b 4, bitCount := b 5, repeats := b 6, repeatForm := b 7,
        payload := BitVec.ofNat 128 (eight 8 + 2 ^ 64 * eight 16), listAddress := w 24, pairCount := b 28,
        holdLimit := h 30, attempts := b 32, replyWindow := h 34, replyProfile := b 36, replyMask := m 40,
        replyValue := m 48 } ∧
    decodeProfileRecord e =
      { encoding := b 0, biphasePolarity := b 1, carrierHigh := b 2, carrierLow := b 3, leaderMark := h 4,
        leaderSpace := h 6, mark0 := h 8, space0 := h 10, mark1 := h 12, space1 := h 14, trailerMark := h 16,
        bitsMin := b 18, bitsMax := b 19, endSilence := h 20, minGap := h 22, framePeriod := h 24, repeatMark := h 26,
        repeatSpace := h 28, repeatWindow := h 30, collapseIdentical := b 32, tolerance := b 33, learn := b 34,
        learnMin := h 36, learnMax := h 38 } ∧
    command 1 (.nop (h 2)) ∧
    command 2 (.setEventQueue (h 2)
      { queue := b 4, mode := b 5, size := h 6, base := w 8, threshold := b 12, holdoff := h 14 }) ∧
    command 3 (.setRequestQueue (h 2) { lane := b 4, completionQueue := b 5, size := h 6, base := w 8 }) ∧
    command 4 (.loadProfile (h 2) (b 4) (w 8)) ∧ command 5 (.clearProfile (h 2) (b 4)) ∧
    command 6 (.loadFilter (h 2)
      { entry := b 4, valid := b 5, lanes := b 6, profile := b 7, action := b 8, target := b 9, entryTag := h 10,
        mask := m 16, value := m 24 }) ∧
    command 7 (.setLane (h 2)
      { lane := b 4, mode := b 5, inputLevel := b 6, outputLevel := b 7, glitchWidth := b 8, armedCount := b 9,
        echoGuard := h 10, deferLimit := h 12, settleSilence := h 14, armed1 := b 16, armed2 := b 17, armed3 := b 18,
        armed4 := b 19, reportErrors := b 20, capture := b 21, defaultAction := b 22, defaultEq := b 23,
        guardMode := b 24, gateCommand := b 25, guardWindow := h 26 }) ∧
    command 8 (.abortLane (h 2) (b 4) (b 5)) ∧ command 9 (.resetLane (h 2) (b 4)) ∧
    command 10 (.release (h 2) (b 4) (h 6)) ∧ command 11 (.postCaptureBuffer (h 2) (w 8)) ∧
    command 12 (.readCounters (h 2)
      { source := b 4, lane := b 5, firstEntry := b 6, entryCount := b 7, clear := b 8, address := w 12 }) ∧
    ((b 0).toNat = 0 ∨ 13 ≤ (b 0).toNat → decodeAdminEntry e = .unknownCommand (b 0) (h 2)) ∧
    ∀ n : Nat, (decodePairs e n).length = n ∧
      ∀ i, i < n → (decodePairs e n)[i]? = some { mark := h (4 * i), space := h (4 * i + 2) }) ∧
  (∀ (c : Instr) (bytes : List Byte), c.wellFormed = true → encodeAdminEntry c = some bytes →
    bytes.length = 64 ∧ decodeAdminEntry bytes = c) ∧
  (∀ e : RequestEntry, (encodeRequestEntry e).length = 64 ∧ decodeRequestEntry (encodeRequestEntry e) = e) ∧
  (∀ r : ProfileRecord, (encodeProfileRecord r).length = 64 ∧ decodeProfileRecord (encodeProfileRecord r) = r) ∧
  ∀ pairs : List RawPair, (encodePairs pairs).length = 4 * pairs.length ∧
    decodePairs (encodePairs pairs) pairs.length = pairs

/-- What one lane sends, another decodes. For every record that passes its checks and has a leader, a frame of k bits, k
from bits_min to bits_max, is a leader followed by intervals that a decoder of the same profile takes without error: the
leader space matches, no space reaches end silence, and at end silence the frame has exactly the k bits sent. The one
exception is a BIPHASE frame whose first half is a space merged into a leader space that still matches as a leader space
alone, which R42 (1) tries first. -/
def Obligations.FramesDecodeToTheirPayload : Prop :=
  ∀ (r : ProfileRecord) (payload : Payload) (k : Nat),
    let p := profileOf r
    recordFault r = none → p.leaderMark ≠ 0 → p.bitsMin ≤ k → k ≤ p.bitsMax →
    (p.encoding = .biphase → markFirst p.polarity (payload.getLsbD 0) = true ∨
      inWindow (p.leaderSpace + p.mark0) p.leaderSpace p.tolerance = false) →
    ∃ space half rest part ended,
      frameForm p payload k = ⟨true, p.leaderMark⟩ :: ⟨false, space⟩ :: rest ∧
      (∀ c : Candidate, c.leader = some 256 → leaderSpaceMatch p c space = some (256, half)) ∧
      (∀ x ∈ rest, x.mark = false → x.length < p.endSilence) ∧
      heard p rest { count := 0, payload := 0, bitMark := false, trailerMark := false, half := half } = .ok part ∧
      silence p part = .ok ended ∧ ended.count = k ∧
      ∀ i : Nat, ended.payload.getLsbD i = (decide (i < k) && payload.getLsbD i)

/-! ## Invariants -/

/-- Every step, from any state whatever, keeps the bounds of the part: at most 4 events in an outbox, lane settings in
their ranges, and every event ring and request ring with its indices inside it and never more unread entries than
places. -/
def Obligations.BoundsKeptByEveryStep : Prop :=
  ∀ s t : State, OutboxesFit s ∧ SettingsInRange s ∧ EventRingsKept s ∧ RequestRingsKept s →
    step s = .next t → OutboxesFit t ∧ SettingsInRange t ∧ EventRingsKept t ∧ RequestRingsKept t

/-- Every step keeps the account of the posted capture buffers: those in the list and those the lanes hold number the
held count, which is at most 16; a lane's decoder holds none while its capture writer does; and a lane is blind exactly
when its decoder is BLIND. -/
def Obligations.BuffersKeptByEveryStep : Prop :=
  ∀ s t : State, BuffersAccounted s → step s = .next t → BuffersAccounted t

/-- Every step keeps the profile slots in use VALID, the armed ones with a leader. -/
def Obligations.SlotsKeptByEveryStep : Prop :=
  ∀ s t : State, SlotsHeld s → step s = .next t → SlotsHeld t

/-- Every step leaves the part quiet while the engine is not RUNNING. -/
def Obligations.QuietKeptByEveryStep : Prop :=
  ∀ s t : State, QuietUnlessRunning s → step s = .next t → QuietUnlessRunning t

/-- Every step keeps each lane working on one request at a time. -/
def Obligations.OneRequestKeptByEveryStep : Prop :=
  ∀ s t : State, OneRequestEach s → step s = .next t → OneRequestEach t
end

