-- ==== Sys2Proof/Laws/State.lean ====
section
/-! SUPPORT. What each update of State does to each field, one lemma per field per update, and the readers (`lane`,
`eq`, `slot`, `entry`, `busSlot`) of an updated state. No later proof unfolds an update. -/

namespace Sys2Proof.Machine

@[simp] theorem each_getElem {α β : Type} {n : Nat} (f : α → β) (xs : Vector α n) (i : Nat) (h : i < n) :
    (each f xs)[i] = f xs[i] := by simp [each]

variable (s : State)

/-! ## Readers of a state given by its fields -/

@[simp] theorem State.lanes_getElem (l : Lane) : s.lanes[l.val] = s.lane l := rfl
@[simp] theorem State.lanes_getElem_fin (l : Lane) : s.lanes[l] = s.lane l := rfl
@[simp] theorem State.eqs_getElem (q : EqId) : s.eqs[q.val] = s.eq q := rfl
@[simp] theorem State.eqs_getElem_fin (q : EqId) : s.eqs[q] = s.eq q := rfl
@[simp] theorem State.slots_getElem (i : SlotId) : s.slots[i.val] = s.slot i := rfl
@[simp] theorem State.slots_getElem_fin (i : SlotId) : s.slots[i] = s.slot i := rfl
@[simp] theorem State.matchTable_getElem (i : EntryId) : s.matchTable[i.val] = s.entry i := rfl
@[simp] theorem State.matchTable_getElem_fin (i : EntryId) : s.matchTable[i] = s.entry i := rfl
@[simp] theorem State.bus_slots_getElem (c : BusClient) : s.bus.slots[(busIndex c).val] = s.busSlot c := rfl

section Fields

variable {f0 : EngineState} {f1 f2 f3 f4 : Bool} {f5 : Word} {f6 : Moment} {f7 : CommandUnit} {f8 : Vector Slot 16}
    {f9 : Vector MatchEntry 64} {f10 : Vector LaneState 4} {f11 : List Word} {f12 : Nat} {f13 : Vector EventQueue 4}
    {f14 : EventWriter} {f15 : BusPort} {f16 : Nat} {f17 : List Instr}

@[simp] theorem State.lane_mk (l : Lane) :
    (State.mk f0 f1 f2 f3 f4 f5 f6 f7 f8 f9 f10 f11 f12 f13 f14 f15 f16 f17).lane l = f10[l.val] := rfl
@[simp] theorem State.eq_mk (q : EqId) :
    (State.mk f0 f1 f2 f3 f4 f5 f6 f7 f8 f9 f10 f11 f12 f13 f14 f15 f16 f17).eq q = f13[q.val] := rfl
@[simp] theorem State.slot_mk (i : SlotId) :
    (State.mk f0 f1 f2 f3 f4 f5 f6 f7 f8 f9 f10 f11 f12 f13 f14 f15 f16 f17).slot i = f8[i.val] := rfl
@[simp] theorem State.entry_mk (i : EntryId) :
    (State.mk f0 f1 f2 f3 f4 f5 f6 f7 f8 f9 f10 f11 f12 f13 f14 f15 f16 f17).entry i = f9[i.val] := rfl
@[simp] theorem State.busSlot_mk (c : BusClient) :
    (State.mk f0 f1 f2 f3 f4 f5 f6 f7 f8 f9 f10 f11 f12 f13 f14 f15 f16 f17).busSlot c = f15.slots[(busIndex c).val] := rfl
@[simp] theorem State.profile_mk (i : SlotId) :
    (State.mk f0 f1 f2 f3 f4 f5 f6 f7 f8 f9 f10 f11 f12 f13 f14 f15 f16 f17).profile i = (f8[i.val]).profile := rfl
@[simp] theorem State.slot_profile (i : SlotId) : (s.slot i).profile = s.profile i := rfl

end Fields

/-! ## `setLane` -/

@[simp] theorem State.setLane_engine (l : Lane) (x : LaneState) : (s.setLane l x).engine = s.engine := rfl
@[simp] theorem State.setLane_irqEnable (l : Lane) (x : LaneState) : (s.setLane l x).irqEnable = s.irqEnable := rfl
@[simp] theorem State.setLane_adminFault (l : Lane) (x : LaneState) : (s.setLane l x).adminFault = s.adminFault := rfl
@[simp] theorem State.setLane_submitError (l : Lane) (x : LaneState) : (s.setLane l x).submitError = s.submitError := rfl
@[simp] theorem State.setLane_ackError (l : Lane) (x : LaneState) : (s.setLane l x).ackError = s.ackError := rfl
@[simp] theorem State.setLane_adminBase (l : Lane) (x : LaneState) : (s.setLane l x).adminBase = s.adminBase := rfl
@[simp] theorem State.setLane_clock (l : Lane) (x : LaneState) : (s.setLane l x).clock = s.clock := rfl
@[simp] theorem State.setLane_admin (l : Lane) (x : LaneState) : (s.setLane l x).admin = s.admin := rfl
@[simp] theorem State.setLane_slots (l : Lane) (x : LaneState) : (s.setLane l x).slots = s.slots := rfl
@[simp] theorem State.setLane_matchTable (l : Lane) (x : LaneState) : (s.setLane l x).matchTable = s.matchTable := rfl
@[simp] theorem State.setLane_captureList (l : Lane) (x : LaneState) : (s.setLane l x).captureList = s.captureList := rfl
@[simp] theorem State.setLane_heldCount (l : Lane) (x : LaneState) : (s.setLane l x).heldCount = s.heldCount := rfl
@[simp] theorem State.setLane_eqs (l : Lane) (x : LaneState) : (s.setLane l x).eqs = s.eqs := rfl
@[simp] theorem State.setLane_writer (l : Lane) (x : LaneState) : (s.setLane l x).writer = s.writer := rfl
@[simp] theorem State.setLane_bus (l : Lane) (x : LaneState) : (s.setLane l x).bus = s.bus := rfl
@[simp] theorem State.setLane_freeIndex (l : Lane) (x : LaneState) : (s.setLane l x).freeIndex = s.freeIndex := rfl
@[simp] theorem State.setLane_pending (l : Lane) (x : LaneState) : (s.setLane l x).pending = s.pending := rfl
@[simp] theorem State.setLane_eq (l : Lane) (x : LaneState) (q' : EqId) : (s.setLane l x).eq q' = s.eq q' := rfl
@[simp] theorem State.setLane_slot (l : Lane) (x : LaneState) (i' : SlotId) : (s.setLane l x).slot i' = s.slot i' := rfl
@[simp] theorem State.setLane_entry (l : Lane) (x : LaneState) (i' : EntryId) : (s.setLane l x).entry i' = s.entry i' := rfl
@[simp] theorem State.setLane_profile (l : Lane) (x : LaneState) (i' : SlotId) : (s.setLane l x).profile i' = s.profile i' := rfl
@[simp] theorem State.setLane_busSlot (l : Lane) (x : LaneState) (c' : BusClient) : (s.setLane l x).busSlot c' = s.busSlot c' := rfl
@[simp] theorem State.setLane_timeBase (l : Lane) (x : LaneState) : (s.setLane l x).timeBase = s.timeBase := rfl

/-! ## `modLane` -/

@[simp] theorem State.modLane_engine (l : Lane) (f : LaneState → LaneState) : (s.modLane l f).engine = s.engine := rfl
@[simp] theorem State.modLane_irqEnable (l : Lane) (f : LaneState → LaneState) : (s.modLane l f).irqEnable = s.irqEnable := rfl
@[simp] theorem State.modLane_adminFault (l : Lane) (f : LaneState → LaneState) : (s.modLane l f).adminFault = s.adminFault := rfl
@[simp] theorem State.modLane_submitError (l : Lane) (f : LaneState → LaneState) : (s.modLane l f).submitError = s.submitError := rfl
@[simp] theorem State.modLane_ackError (l : Lane) (f : LaneState → LaneState) : (s.modLane l f).ackError = s.ackError := rfl
@[simp] theorem State.modLane_adminBase (l : Lane) (f : LaneState → LaneState) : (s.modLane l f).adminBase = s.adminBase := rfl
@[simp] theorem State.modLane_clock (l : Lane) (f : LaneState → LaneState) : (s.modLane l f).clock = s.clock := rfl
@[simp] theorem State.modLane_admin (l : Lane) (f : LaneState → LaneState) : (s.modLane l f).admin = s.admin := rfl
@[simp] theorem State.modLane_slots (l : Lane) (f : LaneState → LaneState) : (s.modLane l f).slots = s.slots := rfl
@[simp] theorem State.modLane_matchTable (l : Lane) (f : LaneState → LaneState) : (s.modLane l f).matchTable = s.matchTable := rfl
@[simp] theorem State.modLane_captureList (l : Lane) (f : LaneState → LaneState) : (s.modLane l f).captureList = s.captureList := rfl
@[simp] theorem State.modLane_heldCount (l : Lane) (f : LaneState → LaneState) : (s.modLane l f).heldCount = s.heldCount := rfl
@[simp] theorem State.modLane_eqs (l : Lane) (f : LaneState → LaneState) : (s.modLane l f).eqs = s.eqs := rfl
@[simp] theorem State.modLane_writer (l : Lane) (f : LaneState → LaneState) : (s.modLane l f).writer = s.writer := rfl
@[simp] theorem State.modLane_bus (l : Lane) (f : LaneState → LaneState) : (s.modLane l f).bus = s.bus := rfl
@[simp] theorem State.modLane_freeIndex (l : Lane) (f : LaneState → LaneState) : (s.modLane l f).freeIndex = s.freeIndex := rfl
@[simp] theorem State.modLane_pending (l : Lane) (f : LaneState → LaneState) : (s.modLane l f).pending = s.pending := rfl
@[simp] theorem State.modLane_eq (l : Lane) (f : LaneState → LaneState) (q' : EqId) : (s.modLane l f).eq q' = s.eq q' := rfl
@[simp] theorem State.modLane_slot (l : Lane) (f : LaneState → LaneState) (i' : SlotId) : (s.modLane l f).slot i' = s.slot i' := rfl
@[simp] theorem State.modLane_entry (l : Lane) (f : LaneState → LaneState) (i' : EntryId) : (s.modLane l f).entry i' = s.entry i' := rfl
@[simp] theorem State.modLane_profile (l : Lane) (f : LaneState → LaneState) (i' : SlotId) : (s.modLane l f).profile i' = s.profile i' := rfl
@[simp] theorem State.modLane_busSlot (l : Lane) (f : LaneState → LaneState) (c' : BusClient) : (s.modLane l f).busSlot c' = s.busSlot c' := rfl
@[simp] theorem State.modLane_timeBase (l : Lane) (f : LaneState → LaneState) : (s.modLane l f).timeBase = s.timeBase := rfl

/-! ## `modSeq` -/

@[simp] theorem State.modSeq_engine (l : Lane) (f : Sequencer → Sequencer) : (s.modSeq l f).engine = s.engine := rfl
@[simp] theorem State.modSeq_irqEnable (l : Lane) (f : Sequencer → Sequencer) : (s.modSeq l f).irqEnable = s.irqEnable := rfl
@[simp] theorem State.modSeq_adminFault (l : Lane) (f : Sequencer → Sequencer) : (s.modSeq l f).adminFault = s.adminFault := rfl
@[simp] theorem State.modSeq_submitError (l : Lane) (f : Sequencer → Sequencer) : (s.modSeq l f).submitError = s.submitError := rfl
@[simp] theorem State.modSeq_ackError (l : Lane) (f : Sequencer → Sequencer) : (s.modSeq l f).ackError = s.ackError := rfl
@[simp] theorem State.modSeq_adminBase (l : Lane) (f : Sequencer → Sequencer) : (s.modSeq l f).adminBase = s.adminBase := rfl
@[simp] theorem State.modSeq_clock (l : Lane) (f : Sequencer → Sequencer) : (s.modSeq l f).clock = s.clock := rfl
@[simp] theorem State.modSeq_admin (l : Lane) (f : Sequencer → Sequencer) : (s.modSeq l f).admin = s.admin := rfl
@[simp] theorem State.modSeq_slots (l : Lane) (f : Sequencer → Sequencer) : (s.modSeq l f).slots = s.slots := rfl
@[simp] theorem State.modSeq_matchTable (l : Lane) (f : Sequencer → Sequencer) : (s.modSeq l f).matchTable = s.matchTable := rfl
@[simp] theorem State.modSeq_captureList (l : Lane) (f : Sequencer → Sequencer) : (s.modSeq l f).captureList = s.captureList := rfl
@[simp] theorem State.modSeq_heldCount (l : Lane) (f : Sequencer → Sequencer) : (s.modSeq l f).heldCount = s.heldCount := rfl
@[simp] theorem State.modSeq_eqs (l : Lane) (f : Sequencer → Sequencer) : (s.modSeq l f).eqs = s.eqs := rfl
@[simp] theorem State.modSeq_writer (l : Lane) (f : Sequencer → Sequencer) : (s.modSeq l f).writer = s.writer := rfl
@[simp] theorem State.modSeq_bus (l : Lane) (f : Sequencer → Sequencer) : (s.modSeq l f).bus = s.bus := rfl
@[simp] theorem State.modSeq_freeIndex (l : Lane) (f : Sequencer → Sequencer) : (s.modSeq l f).freeIndex = s.freeIndex := rfl
@[simp] theorem State.modSeq_pending (l : Lane) (f : Sequencer → Sequencer) : (s.modSeq l f).pending = s.pending := rfl
@[simp] theorem State.modSeq_eq (l : Lane) (f : Sequencer → Sequencer) (q' : EqId) : (s.modSeq l f).eq q' = s.eq q' := rfl
@[simp] theorem State.modSeq_slot (l : Lane) (f : Sequencer → Sequencer) (i' : SlotId) : (s.modSeq l f).slot i' = s.slot i' := rfl
@[simp] theorem State.modSeq_entry (l : Lane) (f : Sequencer → Sequencer) (i' : EntryId) : (s.modSeq l f).entry i' = s.entry i' := rfl
@[simp] theorem State.modSeq_profile (l : Lane) (f : Sequencer → Sequencer) (i' : SlotId) : (s.modSeq l f).profile i' = s.profile i' := rfl
@[simp] theorem State.modSeq_busSlot (l : Lane) (f : Sequencer → Sequencer) (c' : BusClient) : (s.modSeq l f).busSlot c' = s.busSlot c' := rfl
@[simp] theorem State.modSeq_timeBase (l : Lane) (f : Sequencer → Sequencer) : (s.modSeq l f).timeBase = s.timeBase := rfl

/-! ## `setEq` -/

@[simp] theorem State.setEq_engine (q : EqId) (x : EventQueue) : (s.setEq q x).engine = s.engine := rfl
@[simp] theorem State.setEq_irqEnable (q : EqId) (x : EventQueue) : (s.setEq q x).irqEnable = s.irqEnable := rfl
@[simp] theorem State.setEq_adminFault (q : EqId) (x : EventQueue) : (s.setEq q x).adminFault = s.adminFault := rfl
@[simp] theorem State.setEq_submitError (q : EqId) (x : EventQueue) : (s.setEq q x).submitError = s.submitError := rfl
@[simp] theorem State.setEq_ackError (q : EqId) (x : EventQueue) : (s.setEq q x).ackError = s.ackError := rfl
@[simp] theorem State.setEq_adminBase (q : EqId) (x : EventQueue) : (s.setEq q x).adminBase = s.adminBase := rfl
@[simp] theorem State.setEq_clock (q : EqId) (x : EventQueue) : (s.setEq q x).clock = s.clock := rfl
@[simp] theorem State.setEq_admin (q : EqId) (x : EventQueue) : (s.setEq q x).admin = s.admin := rfl
@[simp] theorem State.setEq_slots (q : EqId) (x : EventQueue) : (s.setEq q x).slots = s.slots := rfl
@[simp] theorem State.setEq_matchTable (q : EqId) (x : EventQueue) : (s.setEq q x).matchTable = s.matchTable := rfl
@[simp] theorem State.setEq_lanes (q : EqId) (x : EventQueue) : (s.setEq q x).lanes = s.lanes := rfl
@[simp] theorem State.setEq_captureList (q : EqId) (x : EventQueue) : (s.setEq q x).captureList = s.captureList := rfl
@[simp] theorem State.setEq_heldCount (q : EqId) (x : EventQueue) : (s.setEq q x).heldCount = s.heldCount := rfl
@[simp] theorem State.setEq_writer (q : EqId) (x : EventQueue) : (s.setEq q x).writer = s.writer := rfl
@[simp] theorem State.setEq_bus (q : EqId) (x : EventQueue) : (s.setEq q x).bus = s.bus := rfl
@[simp] theorem State.setEq_freeIndex (q : EqId) (x : EventQueue) : (s.setEq q x).freeIndex = s.freeIndex := rfl
@[simp] theorem State.setEq_pending (q : EqId) (x : EventQueue) : (s.setEq q x).pending = s.pending := rfl
@[simp] theorem State.setEq_lane (q : EqId) (x : EventQueue) (l' : Lane) : (s.setEq q x).lane l' = s.lane l' := rfl
@[simp] theorem State.setEq_slot (q : EqId) (x : EventQueue) (i' : SlotId) : (s.setEq q x).slot i' = s.slot i' := rfl
@[simp] theorem State.setEq_entry (q : EqId) (x : EventQueue) (i' : EntryId) : (s.setEq q x).entry i' = s.entry i' := rfl
@[simp] theorem State.setEq_profile (q : EqId) (x : EventQueue) (i' : SlotId) : (s.setEq q x).profile i' = s.profile i' := rfl
@[simp] theorem State.setEq_busSlot (q : EqId) (x : EventQueue) (c' : BusClient) : (s.setEq q x).busSlot c' = s.busSlot c' := rfl
@[simp] theorem State.setEq_timeBase (q : EqId) (x : EventQueue) : (s.setEq q x).timeBase = s.timeBase := rfl

/-! ## `setSlot` -/

@[simp] theorem State.setSlot_engine (i : SlotId) (x : Slot) : (s.setSlot i x).engine = s.engine := rfl
@[simp] theorem State.setSlot_irqEnable (i : SlotId) (x : Slot) : (s.setSlot i x).irqEnable = s.irqEnable := rfl
@[simp] theorem State.setSlot_adminFault (i : SlotId) (x : Slot) : (s.setSlot i x).adminFault = s.adminFault := rfl
@[simp] theorem State.setSlot_submitError (i : SlotId) (x : Slot) : (s.setSlot i x).submitError = s.submitError := rfl
@[simp] theorem State.setSlot_ackError (i : SlotId) (x : Slot) : (s.setSlot i x).ackError = s.ackError := rfl
@[simp] theorem State.setSlot_adminBase (i : SlotId) (x : Slot) : (s.setSlot i x).adminBase = s.adminBase := rfl
@[simp] theorem State.setSlot_clock (i : SlotId) (x : Slot) : (s.setSlot i x).clock = s.clock := rfl
@[simp] theorem State.setSlot_admin (i : SlotId) (x : Slot) : (s.setSlot i x).admin = s.admin := rfl
@[simp] theorem State.setSlot_matchTable (i : SlotId) (x : Slot) : (s.setSlot i x).matchTable = s.matchTable := rfl
@[simp] theorem State.setSlot_lanes (i : SlotId) (x : Slot) : (s.setSlot i x).lanes = s.lanes := rfl
@[simp] theorem State.setSlot_captureList (i : SlotId) (x : Slot) : (s.setSlot i x).captureList = s.captureList := rfl
@[simp] theorem State.setSlot_heldCount (i : SlotId) (x : Slot) : (s.setSlot i x).heldCount = s.heldCount := rfl
@[simp] theorem State.setSlot_eqs (i : SlotId) (x : Slot) : (s.setSlot i x).eqs = s.eqs := rfl
@[simp] theorem State.setSlot_writer (i : SlotId) (x : Slot) : (s.setSlot i x).writer = s.writer := rfl
@[simp] theorem State.setSlot_bus (i : SlotId) (x : Slot) : (s.setSlot i x).bus = s.bus := rfl
@[simp] theorem State.setSlot_freeIndex (i : SlotId) (x : Slot) : (s.setSlot i x).freeIndex = s.freeIndex := rfl
@[simp] theorem State.setSlot_pending (i : SlotId) (x : Slot) : (s.setSlot i x).pending = s.pending := rfl
@[simp] theorem State.setSlot_lane (i : SlotId) (x : Slot) (l' : Lane) : (s.setSlot i x).lane l' = s.lane l' := rfl
@[simp] theorem State.setSlot_eq (i : SlotId) (x : Slot) (q' : EqId) : (s.setSlot i x).eq q' = s.eq q' := rfl
@[simp] theorem State.setSlot_entry (i : SlotId) (x : Slot) (i' : EntryId) : (s.setSlot i x).entry i' = s.entry i' := rfl
@[simp] theorem State.setSlot_busSlot (i : SlotId) (x : Slot) (c' : BusClient) : (s.setSlot i x).busSlot c' = s.busSlot c' := rfl
@[simp] theorem State.setSlot_timeBase (i : SlotId) (x : Slot) : (s.setSlot i x).timeBase = s.timeBase := rfl

/-! ## `setEntry` -/

@[simp] theorem State.setEntry_engine (i : EntryId) (x : MatchEntry) : (s.setEntry i x).engine = s.engine := rfl
@[simp] theorem State.setEntry_irqEnable (i : EntryId) (x : MatchEntry) : (s.setEntry i x).irqEnable = s.irqEnable := rfl
@[simp] theorem State.setEntry_adminFault (i : EntryId) (x : MatchEntry) : (s.setEntry i x).adminFault = s.adminFault := rfl
@[simp] theorem State.setEntry_submitError (i : EntryId) (x : MatchEntry) : (s.setEntry i x).submitError = s.submitError := rfl
@[simp] theorem State.setEntry_ackError (i : EntryId) (x : MatchEntry) : (s.setEntry i x).ackError = s.ackError := rfl
@[simp] theorem State.setEntry_adminBase (i : EntryId) (x : MatchEntry) : (s.setEntry i x).adminBase = s.adminBase := rfl
@[simp] theorem State.setEntry_clock (i : EntryId) (x : MatchEntry) : (s.setEntry i x).clock = s.clock := rfl
@[simp] theorem State.setEntry_admin (i : EntryId) (x : MatchEntry) : (s.setEntry i x).admin = s.admin := rfl
@[simp] theorem State.setEntry_slots (i : EntryId) (x : MatchEntry) : (s.setEntry i x).slots = s.slots := rfl
@[simp] theorem State.setEntry_lanes (i : EntryId) (x : MatchEntry) : (s.setEntry i x).lanes = s.lanes := rfl
@[simp] theorem State.setEntry_captureList (i : EntryId) (x : MatchEntry) : (s.setEntry i x).captureList = s.captureList := rfl
@[simp] theorem State.setEntry_heldCount (i : EntryId) (x : MatchEntry) : (s.setEntry i x).heldCount = s.heldCount := rfl
@[simp] theorem State.setEntry_eqs (i : EntryId) (x : MatchEntry) : (s.setEntry i x).eqs = s.eqs := rfl
@[simp] theorem State.setEntry_writer (i : EntryId) (x : MatchEntry) : (s.setEntry i x).writer = s.writer := rfl
@[simp] theorem State.setEntry_bus (i : EntryId) (x : MatchEntry) : (s.setEntry i x).bus = s.bus := rfl
@[simp] theorem State.setEntry_freeIndex (i : EntryId) (x : MatchEntry) : (s.setEntry i x).freeIndex = s.freeIndex := rfl
@[simp] theorem State.setEntry_pending (i : EntryId) (x : MatchEntry) : (s.setEntry i x).pending = s.pending := rfl
@[simp] theorem State.setEntry_lane (i : EntryId) (x : MatchEntry) (l' : Lane) : (s.setEntry i x).lane l' = s.lane l' := rfl
@[simp] theorem State.setEntry_eq (i : EntryId) (x : MatchEntry) (q' : EqId) : (s.setEntry i x).eq q' = s.eq q' := rfl
@[simp] theorem State.setEntry_slot (i : EntryId) (x : MatchEntry) (i' : SlotId) : (s.setEntry i x).slot i' = s.slot i' := rfl
@[simp] theorem State.setEntry_profile (i : EntryId) (x : MatchEntry) (i' : SlotId) : (s.setEntry i x).profile i' = s.profile i' := rfl
@[simp] theorem State.setEntry_busSlot (i : EntryId) (x : MatchEntry) (c' : BusClient) : (s.setEntry i x).busSlot c' = s.busSlot c' := rfl
@[simp] theorem State.setEntry_timeBase (i : EntryId) (x : MatchEntry) : (s.setEntry i x).timeBase = s.timeBase := rfl

/-! ## `setBus` -/

@[simp] theorem State.setBus_engine (c : BusClient) (x : BusSlot) : (s.setBus c x).engine = s.engine := rfl
@[simp] theorem State.setBus_irqEnable (c : BusClient) (x : BusSlot) : (s.setBus c x).irqEnable = s.irqEnable := rfl
@[simp] theorem State.setBus_adminFault (c : BusClient) (x : BusSlot) : (s.setBus c x).adminFault = s.adminFault := rfl
@[simp] theorem State.setBus_submitError (c : BusClient) (x : BusSlot) : (s.setBus c x).submitError = s.submitError := rfl
@[simp] theorem State.setBus_ackError (c : BusClient) (x : BusSlot) : (s.setBus c x).ackError = s.ackError := rfl
@[simp] theorem State.setBus_adminBase (c : BusClient) (x : BusSlot) : (s.setBus c x).adminBase = s.adminBase := rfl
@[simp] theorem State.setBus_clock (c : BusClient) (x : BusSlot) : (s.setBus c x).clock = s.clock := rfl
@[simp] theorem State.setBus_admin (c : BusClient) (x : BusSlot) : (s.setBus c x).admin = s.admin := rfl
@[simp] theorem State.setBus_slots (c : BusClient) (x : BusSlot) : (s.setBus c x).slots = s.slots := rfl
@[simp] theorem State.setBus_matchTable (c : BusClient) (x : BusSlot) : (s.setBus c x).matchTable = s.matchTable := rfl
@[simp] theorem State.setBus_lanes (c : BusClient) (x : BusSlot) : (s.setBus c x).lanes = s.lanes := rfl
@[simp] theorem State.setBus_captureList (c : BusClient) (x : BusSlot) : (s.setBus c x).captureList = s.captureList := rfl
@[simp] theorem State.setBus_heldCount (c : BusClient) (x : BusSlot) : (s.setBus c x).heldCount = s.heldCount := rfl
@[simp] theorem State.setBus_eqs (c : BusClient) (x : BusSlot) : (s.setBus c x).eqs = s.eqs := rfl
@[simp] theorem State.setBus_writer (c : BusClient) (x : BusSlot) : (s.setBus c x).writer = s.writer := rfl
@[simp] theorem State.setBus_freeIndex (c : BusClient) (x : BusSlot) : (s.setBus c x).freeIndex = s.freeIndex := rfl
@[simp] theorem State.setBus_pending (c : BusClient) (x : BusSlot) : (s.setBus c x).pending = s.pending := rfl
@[simp] theorem State.setBus_lane (c : BusClient) (x : BusSlot) (l' : Lane) : (s.setBus c x).lane l' = s.lane l' := rfl
@[simp] theorem State.setBus_eq (c : BusClient) (x : BusSlot) (q' : EqId) : (s.setBus c x).eq q' = s.eq q' := rfl
@[simp] theorem State.setBus_slot (c : BusClient) (x : BusSlot) (i' : SlotId) : (s.setBus c x).slot i' = s.slot i' := rfl
@[simp] theorem State.setBus_entry (c : BusClient) (x : BusSlot) (i' : EntryId) : (s.setBus c x).entry i' = s.entry i' := rfl
@[simp] theorem State.setBus_profile (c : BusClient) (x : BusSlot) (i' : SlotId) : (s.setBus c x).profile i' = s.profile i' := rfl
@[simp] theorem State.setBus_timeBase (c : BusClient) (x : BusSlot) : (s.setBus c x).timeBase = s.timeBase := rfl
/-! ## What a reader sees after an update of the same kind -/

theorem State.setLane_lane (l l' : Lane) (x : LaneState) : (s.setLane l x).lane l' = if l' = l then x else s.lane l' := by
  unfold State.lane State.setLane
  by_cases h : l' = l
  · subst h; simp
  · rw [if_neg h]
    simp only [Vector.getElem_set]
    rw [if_neg fun e => h (Fin.ext e.symm)]

@[simp] theorem State.setLane_lane_self (l : Lane) (x : LaneState) : (s.setLane l x).lane l = x := by
  simp [State.setLane_lane]

@[simp] theorem State.setLane_lane_ne {l l' : Lane} (x : LaneState) (h : l' ≠ l) : (s.setLane l x).lane l' = s.lane l' := by
  simp [State.setLane_lane, h]

@[simp] theorem State.setLane_setLane (l : Lane) (x y : LaneState) : (s.setLane l x).setLane l y = s.setLane l y := by
  simp [State.setLane]

@[simp] theorem State.setLane_lane_same (l : Lane) : s.setLane l (s.lane l) = s := by
  unfold State.setLane
  rw [show s.lanes.set l.val (s.lane l) = s.lanes from Vector.set_getElem_self _]

theorem State.modLane_def (l : Lane) (f : LaneState → LaneState) : s.modLane l f = s.setLane l (f (s.lane l)) := rfl

theorem State.modLane_lane (l l' : Lane) (f : LaneState → LaneState) :
    (s.modLane l f).lane l' = if l' = l then f (s.lane l) else s.lane l' := State.setLane_lane s l l' _

@[simp] theorem State.modLane_lane_self (l : Lane) (f : LaneState → LaneState) : (s.modLane l f).lane l = f (s.lane l) :=
  State.setLane_lane_self s l _

@[simp] theorem State.modLane_lane_ne {l l' : Lane} (f : LaneState → LaneState) (h : l' ≠ l) :
    (s.modLane l f).lane l' = s.lane l' := State.setLane_lane_ne s _ h

@[simp] theorem State.modLane_modLane (l : Lane) (f g : LaneState → LaneState) :
    (s.modLane l f).modLane l g = s.modLane l (g ∘ f) := by
  simp [State.modLane]

@[simp] theorem State.setLane_modLane (l : Lane) (x : LaneState) (g : LaneState → LaneState) :
    (s.setLane l x).modLane l g = s.setLane l (g x) := by
  simp [State.modLane]

theorem State.modSeq_def (l : Lane) (f : Sequencer → Sequencer) :
    s.modSeq l f = s.setLane l { s.lane l with seq := f (s.lane l).seq } := rfl

@[simp] theorem State.modSeq_lane_self (l : Lane) (f : Sequencer → Sequencer) :
    (s.modSeq l f).lane l = { s.lane l with seq := f (s.lane l).seq } := State.setLane_lane_self s l _

@[simp] theorem State.modSeq_lane_ne {l l' : Lane} (f : Sequencer → Sequencer) (h : l' ≠ l) :
    (s.modSeq l f).lane l' = s.lane l' := State.setLane_lane_ne s _ h

theorem State.setEq_eq (q q' : EqId) (x : EventQueue) : (s.setEq q x).eq q' = if q' = q then x else s.eq q' := by
  unfold State.eq State.setEq
  by_cases h : q' = q
  · subst h; simp
  · rw [if_neg h]
    simp only [Vector.getElem_set]
    rw [if_neg fun e => h (Fin.ext e.symm)]

@[simp] theorem State.setEq_eq_self (q : EqId) (x : EventQueue) : (s.setEq q x).eq q = x := by
  simp [State.setEq_eq]

@[simp] theorem State.setEq_eq_ne {q q' : EqId} (x : EventQueue) (h : q' ≠ q) : (s.setEq q x).eq q' = s.eq q' := by
  simp [State.setEq_eq, h]

theorem State.setSlot_slot (i i' : SlotId) (x : Slot) : (s.setSlot i x).slot i' = if i' = i then x else s.slot i' := by
  unfold State.slot State.setSlot
  by_cases h : i' = i
  · subst h; simp
  · rw [if_neg h]
    simp only [Vector.getElem_set]
    rw [if_neg fun e => h (Fin.ext e.symm)]

@[simp] theorem State.setSlot_slot_self (i : SlotId) (x : Slot) : (s.setSlot i x).slot i = x := by
  simp [State.setSlot_slot]

@[simp] theorem State.setSlot_slot_ne {i i' : SlotId} (x : Slot) (h : i' ≠ i) : (s.setSlot i x).slot i' = s.slot i' := by
  simp [State.setSlot_slot, h]

theorem State.setSlot_profile (i i' : SlotId) (x : Slot) :
    (s.setSlot i x).profile i' = if i' = i then x.profile else s.profile i' := by
  unfold State.profile
  rw [State.setSlot_slot]
  split <;> rfl

theorem State.setEntry_entry (i i' : EntryId) (x : MatchEntry) :
    (s.setEntry i x).entry i' = if i' = i then x else s.entry i' := by
  unfold State.entry State.setEntry
  by_cases h : i' = i
  · subst h; simp
  · rw [if_neg h]
    simp only [Vector.getElem_set]
    rw [if_neg fun e => h (Fin.ext e.symm)]

@[simp] theorem State.setEntry_entry_self (i : EntryId) (x : MatchEntry) : (s.setEntry i x).entry i = x := by
  simp [State.setEntry_entry]

/-- Two clients have different places in the bus port. -/
theorem busIndex_injective {c c' : BusClient} (h : busIndex c = busIndex c') : c = c' := by
  have h' := congrArg Fin.val h
  cases c <;> cases c' <;> simp only [busIndex] at h' <;>
    first
      | rfl
      | exact absurd h' (by decide)
      | (exfalso
         have := Fin.isLt ‹Lane›
         omega)
      | (rename_i l l'
         have hl : l = l' := Fin.ext (by omega)
         rw [hl])

theorem State.setBus_busSlot (c c' : BusClient) (x : BusSlot) :
    (s.setBus c x).busSlot c' = if c' = c then x else s.busSlot c' := by
  unfold State.busSlot State.setBus
  by_cases h : c' = c
  · subst h; simp
  · rw [if_neg h]
    simp only [Vector.getElem_set]
    rw [if_neg fun e => h (busIndex_injective (Fin.ext e.symm))]

@[simp] theorem State.setBus_busSlot_self (c : BusClient) (x : BusSlot) : (s.setBus c x).busSlot c = x := by
  simp [State.setBus_busSlot]

@[simp] theorem State.setBus_busSlot_ne {c c' : BusClient} (x : BusSlot) (h : c' ≠ c) :
    (s.setBus c x).busSlot c' = s.busSlot c' := by
  simp [State.setBus_busSlot, h]

@[simp] theorem State.setBus_setBus (c : BusClient) (x y : BusSlot) : (s.setBus c x).setBus c y = s.setBus c y := by
  simp [State.setBus]

@[simp] theorem State.setBus_pointer (c : BusClient) (x : BusSlot) : (s.setBus c x).bus.pointer = s.bus.pointer := rfl

/-! ## The command unit's state -/

@[simp] theorem setAdmin_state (x : AdminState) : (setAdmin x s).admin.state = x := rfl
@[simp] theorem setAdmin_queue (x : AdminState) : (setAdmin x s).admin.queue = s.admin.queue := rfl
@[simp] theorem setAdmin_lane (x : AdminState) (l : Lane) : (setAdmin x s).lane l = s.lane l := rfl
@[simp] theorem setAdmin_eq (x : AdminState) (q : EqId) : (setAdmin x s).eq q = s.eq q := rfl
@[simp] theorem setAdmin_slot (x : AdminState) (i : SlotId) : (setAdmin x s).slot i = s.slot i := rfl
@[simp] theorem setAdmin_profile (x : AdminState) (i : SlotId) : (setAdmin x s).profile i = s.profile i := rfl
@[simp] theorem setAdmin_entry (x : AdminState) (i : EntryId) : (setAdmin x s).entry i = s.entry i := rfl
@[simp] theorem setAdmin_busSlot (x : AdminState) (c : BusClient) : (setAdmin x s).busSlot c = s.busSlot c := rfl
@[simp] theorem setAdmin_engine (x : AdminState) : (setAdmin x s).engine = s.engine := rfl
@[simp] theorem setAdmin_irqEnable (x : AdminState) : (setAdmin x s).irqEnable = s.irqEnable := rfl
@[simp] theorem setAdmin_adminFault (x : AdminState) : (setAdmin x s).adminFault = s.adminFault := rfl
@[simp] theorem setAdmin_submitError (x : AdminState) : (setAdmin x s).submitError = s.submitError := rfl
@[simp] theorem setAdmin_ackError (x : AdminState) : (setAdmin x s).ackError = s.ackError := rfl
@[simp] theorem setAdmin_adminBase (x : AdminState) : (setAdmin x s).adminBase = s.adminBase := rfl
@[simp] theorem setAdmin_clock (x : AdminState) : (setAdmin x s).clock = s.clock := rfl
@[simp] theorem setAdmin_slots (x : AdminState) : (setAdmin x s).slots = s.slots := rfl
@[simp] theorem setAdmin_matchTable (x : AdminState) : (setAdmin x s).matchTable = s.matchTable := rfl
@[simp] theorem setAdmin_lanes (x : AdminState) : (setAdmin x s).lanes = s.lanes := rfl
@[simp] theorem setAdmin_captureList (x : AdminState) : (setAdmin x s).captureList = s.captureList := rfl
@[simp] theorem setAdmin_heldCount (x : AdminState) : (setAdmin x s).heldCount = s.heldCount := rfl
@[simp] theorem setAdmin_eqs (x : AdminState) : (setAdmin x s).eqs = s.eqs := rfl
@[simp] theorem setAdmin_writer (x : AdminState) : (setAdmin x s).writer = s.writer := rfl
@[simp] theorem setAdmin_bus (x : AdminState) : (setAdmin x s).bus = s.bus := rfl
@[simp] theorem setAdmin_freeIndex (x : AdminState) : (setAdmin x s).freeIndex = s.freeIndex := rfl
@[simp] theorem setAdmin_pending (x : AdminState) : (setAdmin x s).pending = s.pending := rfl

end Sys2Proof.Machine
end

