-- ==== Sys2Proof/Laws/Frame.lean ====
section
/-! SUPPORT. What the operations of one lane leave alone: `OnlyLane l s t` says that `t` differs from `s` in lane `l`, in
the capture list, in hit counts and in what the bus port holds for the lane's two clients, and in nothing else. One lemma
per operation. -/

namespace Sys2Proof.Machine

/-- Nothing but lane `l`, the capture list, hit counts, and the lane's two places in the bus port differs. -/
structure OnlyLane (l : Lane) (s t : State) : Prop where
  engine : t.engine = s.engine
  irqEnable : t.irqEnable = s.irqEnable
  adminFault : t.adminFault = s.adminFault
  submitError : t.submitError = s.submitError
  ackError : t.ackError = s.ackError
  adminBase : t.adminBase = s.adminBase
  clock : t.clock = s.clock
  admin : t.admin = s.admin
  slots : t.slots = s.slots
  filters : ∀ i, (t.entry i).filter = (s.entry i).filter
  lanes : ∀ l', l' ≠ l → t.lane l' = s.lane l'
  heldCount : t.heldCount = s.heldCount
  eqs : t.eqs = s.eqs
  writer : t.writer = s.writer
  pointer : t.bus.pointer = s.bus.pointer
  clients : ∀ c, c ≠ .sequencer l → c ≠ .captureWriter l → t.busSlot c = s.busSlot c
  freeIndex : t.freeIndex = s.freeIndex
  pending : t.pending = s.pending

namespace OnlyLane

variable {l : Lane} {s t u : State}

theorem refl (l : Lane) (s : State) : OnlyLane l s s := by
  constructor <;> intros <;> rfl

theorem trans (h : OnlyLane l s t) (k : OnlyLane l t u) : OnlyLane l s u where
  engine := k.engine.trans h.engine
  irqEnable := k.irqEnable.trans h.irqEnable
  adminFault := k.adminFault.trans h.adminFault
  submitError := k.submitError.trans h.submitError
  ackError := k.ackError.trans h.ackError
  adminBase := k.adminBase.trans h.adminBase
  clock := k.clock.trans h.clock
  admin := k.admin.trans h.admin
  slots := k.slots.trans h.slots
  filters := fun i => (k.filters i).trans (h.filters i)
  lanes := fun l' e => (k.lanes l' e).trans (h.lanes l' e)
  heldCount := k.heldCount.trans h.heldCount
  eqs := k.eqs.trans h.eqs
  writer := k.writer.trans h.writer
  pointer := k.pointer.trans h.pointer
  clients := fun c a b => (k.clients c a b).trans (h.clients c a b)
  freeIndex := k.freeIndex.trans h.freeIndex
  pending := k.pending.trans h.pending

/-- Every profile slot holds the profile it held. -/
theorem profile (h : OnlyLane l s t) (i : SlotId) : t.profile i = s.profile i := by
  show (t.slots[i.val]).profile = (s.slots[i.val]).profile
  rw [h.slots]

/-- Every event queue is as it was. -/
theorem eq (h : OnlyLane l s t) (q : EqId) : t.eq q = s.eq q := by
  show t.eqs[q.val] = s.eqs[q.val]
  rw [h.eqs]

end OnlyLane

/-! ## Updates of the lane, the capture list and the match table -/

theorem onlyLane_setLane (l : Lane) (x : LaneState) (s : State) : OnlyLane l s (s.setLane l x) := by
  constructor <;> intros <;> first | rfl | (apply State.setLane_lane_ne; assumption)

theorem onlyLane_modLane (l : Lane) (f : LaneState → LaneState) (s : State) : OnlyLane l s (s.modLane l f) :=
  onlyLane_setLane l _ s

theorem onlyLane_modSeq (l : Lane) (f : Sequencer → Sequencer) (s : State) : OnlyLane l s (s.modSeq l f) :=
  onlyLane_setLane l _ s

theorem onlyLane_captureList (l : Lane) (list : List Word) (s : State) :
    OnlyLane l s { s with captureList := list } := by
  constructor <;> intros <;> rfl

theorem onlyLane_hits (l : Lane) (i : EntryId) (hits : Word) (s : State) :
    OnlyLane l s (s.setEntry i { s.entry i with hits := hits }) := by
  constructor <;> intros <;> first | rfl | skip
  rename_i j
  rw [State.setEntry_entry]
  by_cases h : j = i
  · subst h; simp
  · rw [if_neg h]

theorem onlyLane_setBus {l : Lane} {c : BusClient} (h : c = .sequencer l ∨ c = .captureWriter l) (x : BusSlot)
    (s : State) : OnlyLane l s (s.setBus c x) := by
  constructor <;> intros <;> first | rfl | skip
  apply State.setBus_busSlot_ne
  rintro rfl
  rcases h with h | h <;> contradiction

theorem onlyLane_bump (l : Lane) (c : LaneCounter) (s : State) : OnlyLane l s (bump l c s) := onlyLane_modLane l _ s

theorem onlyLane_askSequencer (l : Lane) (t : Transaction) (s : State) : OnlyLane l s (askBus (.sequencer l) t s) := by
  unfold askBus
  split
  · exact onlyLane_setBus (.inl rfl) _ s
  · exact .refl l s
  · exact .refl l s

theorem onlyLane_askCapture (l : Lane) (t : Transaction) (s : State) :
    OnlyLane l s (askBus (.captureWriter l) t s) := by
  unfold askBus
  split
  · exact onlyLane_setBus (.inr rfl) _ s
  · exact .refl l s
  · exact .refl l s

theorem onlyLane_returnBuffer (l : Lane) (b : Word) (s : State) : OnlyLane l s (returnBuffer b s) :=
  onlyLane_captureList l _ s

theorem onlyLane_takeBuffer {l : Lane} {b : Word} {s t : State} (h : takeBuffer l s = some (b, t)) : OnlyLane l s t := by
  unfold takeBuffer at h
  split at h
  · cases h; exact onlyLane_captureList l _ s
  · cases h

/-! ## Outbox and press tracker -/

theorem onlyLane_enterOutbox (l : Lane) (ev : RxEvent) (s : State) : OnlyLane l s (enterOutbox l ev s) := by
  unfold enterOutbox
  dsimp only
  split
  · exact onlyLane_modLane l _ s
  · have h := (onlyLane_modLane l (fun x => { x with
        outbox := { (s.lane l).outbox with lost := satInc (s.lane l).outbox.lost } }) s).trans
        (onlyLane_bump l .lostEvents _)
    split
    · exact h.trans (onlyLane_returnBuffer l _ _)
    · exact h
    · exact h

theorem onlyLane_makeFrame (l : Lane) (ev : RxEvent) (s : State) : OnlyLane l s (makeFrame l ev s) := by
  unfold makeFrame
  dsimp only
  split
  · exact (onlyLane_modLane l _ s).trans (onlyLane_enterOutbox l ev _)
  · exact onlyLane_enterOutbox l ev s

theorem onlyLane_closePress (l : Lane) (s : State) : OnlyLane l s (closePress l s) := by
  unfold closePress
  split
  · exact .refl l s
  · dsimp only
    split
    · exact (onlyLane_makeFrame l _ s).trans (onlyLane_modLane l _ _)
    · exact onlyLane_modLane l _ s

theorem onlyLane_countRepeat (l : Lane) (p : Press) (start : Moment) (s : State) :
    OnlyLane l s (countRepeat l p start s) := by
  unfold countRepeat
  dsimp only
  split
  · exact (onlyLane_modLane l _ s).trans (onlyLane_makeFrame l _ _)
  · exact onlyLane_modLane l _ s

theorem onlyLane_lookup (l : Lane) (f : GoodFrame) (s : State) : OnlyLane l s (lookup l f s).2 := by
  unfold lookup
  split
  · split
    · exact onlyLane_hits l _ _ s
    · exact .refl l s
  · exact .refl l s

theorem onlyLane_firstEvents (l : Lane) (f : GoodFrame) (v : Verdict) (phase : Option PressPhase) (s : State) :
    OnlyLane l s (firstEvents l f v phase s) := by
  unfold firstEvents
  split
  · exact .refl l s
  · exact onlyLane_makeFrame l _ s
  · exact onlyLane_makeFrame l _ s

theorem onlyLane_openPress (l : Lane) (f : GoodFrame) (v : Verdict) (d e : Bool) (s : State) :
    OnlyLane l s (openPress l f v d e s) := by
  unfold openPress
  dsimp only
  split
  · exact onlyLane_modLane l _ s
  · exact .refl l s

theorem onlyLane_newPress (l : Lane) (f : GoodFrame) (s : State) : OnlyLane l s (newPress l f s) := by
  unfold newPress
  have h := (onlyLane_closePress l s).trans (onlyLane_lookup l f (closePress l s))
  dsimp only
  split
  · split
    · exact ((h.trans (onlyLane_modLane l _ _)).trans (onlyLane_makeFrame l _ _)).trans (onlyLane_openPress l f _ _ _ _)
    · exact h.trans (onlyLane_openPress l f _ _ _ _)
  · exact (h.trans (onlyLane_firstEvents l f _ _ _)).trans (onlyLane_openPress l f _ _ _ _)

theorem onlyLane_takeFrame (l : Lane) (f : GoodFrame) (s : State) : OnlyLane l s (takeFrame l f s) := by
  unfold takeFrame
  split
  · exact onlyLane_newPress l f s
  · split
    · exact onlyLane_countRepeat l _ _ s
    · exact onlyLane_newPress l f s

theorem onlyLane_takeRepeatCode (l : Lane) (i : SlotId) (start : Moment) (s : State) :
    OnlyLane l s (takeRepeatCode l i start s) := by
  unfold takeRepeatCode
  split
  · exact onlyLane_bump l _ s
  · split
    · exact (onlyLane_countRepeat l _ _ s).trans (onlyLane_bump l _ _)
    · exact onlyLane_bump l _ s

/-! ## What transmission and reception share -/

theorem onlyLane_abandonWork (l : Lane) (s : State) : OnlyLane l s (abandonWork l s) := by
  unfold abandonWork
  split
  · exact onlyLane_returnBuffer l _ s
  · exact .refl l s

theorem onlyLane_raiseBlind (l : Lane) (count : Bool) (s : State) : OnlyLane l s (raiseBlind l count s) := by
  unfold raiseBlind
  dsimp only
  split
  · exact onlyLane_modLane l _ s
  · split
    · exact ((onlyLane_bump l _ s).trans (onlyLane_abandonWork l _)).trans (onlyLane_modLane l _ _)
    · exact (onlyLane_abandonWork l s).trans (onlyLane_modLane l _ _)

theorem onlyLane_markOverrun (l : Lane) (s : State) : OnlyLane l s (markOverrun l s) :=
  (onlyLane_modLane l _ s).trans (onlyLane_bump l _ _)

/-- A mark confirmed in BLIND is overrun, when it was begun before the first transmission that starts now, or is
disregarded (R33, R34). -/
theorem blindMark_cases (l : Lane) (edge : Moment) (s : State) :
    (∃ t since, (s.lane l).tx = some t ∧ t.metHunt = some since ∧ t.start = s.clock ∧ since < edge ∧ edge < t.start ∧
        blindMark l edge s = markOverrun l s) ∨ blindMark l edge s = s := by
  unfold blindMark
  split
  · exact .inr rfl
  · rename_i t ht
    split
    · exact .inr rfl
    · rename_i since hm
      split
      · rename_i h
        exact .inl ⟨t, since, ht, hm, h.1, h.2.1, h.2.2, rfl⟩
      · exact .inr rfl

theorem onlyLane_blindMark (l : Lane) (edge : Moment) (s : State) : OnlyLane l s (blindMark l edge s) := by
  rcases blindMark_cases l edge s with ⟨t, since, -, -, -, -, -, h⟩ | h <;> rw [h]
  · exact onlyLane_markOverrun l s
  · exact .refl l s

theorem onlyLane_complete (l : Lane) (c : Completion) (s : State) : OnlyLane l s (complete l c s) :=
  onlyLane_modSeq l _ s

theorem onlyLane_answer (l : Lane) (e : RequestEntry) (c : Code) (p d : Byte) (s : State) :
    OnlyLane l s (answer l e c p d s) := onlyLane_complete l _ s

theorem onlyLane_finish (l : Lane) (r : ActiveRequest) (c : Code) (d : Byte) (s : State) :
    OnlyLane l s (finish l r c d s) := onlyLane_complete l _ s

theorem onlyLane_setEndCause (l : Lane) (r : ActiveRequest) (c : Option Code) (s : State) :
    OnlyLane l s (setEndCause l r c s) := onlyLane_modSeq l _ s

theorem onlyLane_endHold (l : Lane) (r : ActiveRequest) (c : Code) (s : State) : OnlyLane l s (endHold l r c s) :=
  (onlyLane_setEndCause l r _ s).trans (onlyLane_finish l _ _ _ _)

theorem onlyLane_beginFetch (l : Lane) (s : State) : OnlyLane l s (beginFetch l s) :=
  (onlyLane_modSeq l _ s).trans (onlyLane_askSequencer l _ _)

theorem onlyLane_fetchCheck (l : Lane) (s : State) : OnlyLane l s (fetchCheck l s) := by
  unfold fetchCheck
  split
  · exact onlyLane_beginFetch l s
  · exact .refl l s

theorem onlyLane_startTransmission (l : Lane) (forced : Bool) (s : State) :
    OnlyLane l s (startTransmission l forced s) := by
  unfold startTransmission
  split
  · exact .refl l s
  · dsimp only
    refine OnlyLane.trans ?_ (onlyLane_modLane l _ _)
    cases forced
    · simp only [Bool.false_eq_true, if_false]
      split
      · exact onlyLane_raiseBlind l _ s
      · exact .refl l s
    · simp only [if_true]
      split
      · exact (onlyLane_bump l _ s).trans (onlyLane_raiseBlind l _ _)
      · exact onlyLane_bump l _ s

theorem onlyLane_huntEntered (l : Lane) (s : State) : OnlyLane l s (huntEntered l s) := by
  unfold huntEntered
  split <;> first | exact onlyLane_startTransmission l _ s | exact .refl l s

theorem onlyLane_enterHunt (l : Lane) (s : State) : OnlyLane l s (enterHunt l s) :=
  (onlyLane_modLane l _ s).trans (onlyLane_huntEntered l _)

theorem onlyLane_takeGoodFrame (l : Lane) (f : GoodFrame) (s : State) : OnlyLane l s (takeGoodFrame l f s) := by
  unfold takeGoodFrame
  dsimp only
  split
  · split
    · exact onlyLane_complete l _ s
    · exact onlyLane_takeFrame l f s
  · exact onlyLane_takeFrame l f s

/-! ## Decoder -/

theorem onlyLane_setDecoder (l : Lane) (d : Decoder) (s : State) : OnlyLane l s (setDecoder l d s) :=
  onlyLane_modLane l _ s

theorem onlyLane_finishCapture (l : Lane) (b : Word) (start : Moment) (c : Code) (pairs : List CapturePair)
    (s : State) : OnlyLane l s (finishCapture l b start c pairs s) :=
  (onlyLane_modLane l _ s).trans (onlyLane_askCapture l _ _)

theorem onlyLane_frameError (l : Lane) (c : Code) (i : SlotId) (start : Moment) (part : PartialFrame) (s : State) :
    OnlyLane l s (frameError l c i start part s) := by
  unfold frameError
  dsimp only
  split
  · exact (onlyLane_bump l _ s).trans (onlyLane_enterOutbox l _ _)
  · exact onlyLane_bump l _ s

theorem onlyLane_brokenInside (l : Lane) (c : Code) (i : SlotId) (k : Nat) (start : Moment) (part : PartialFrame)
    (s : State) : OnlyLane l s (brokenInside l c i k start part s) :=
  (onlyLane_frameError l c i start part s).trans (onlyLane_setDecoder l _ _)

theorem onlyLane_brokenAtEnd (l : Lane) (c : Code) (i : SlotId) (start : Moment) (part : PartialFrame) (s : State) :
    OnlyLane l s (brokenAtEnd l c i start part s) :=
  (onlyLane_frameError l c i start part s).trans (onlyLane_enterHunt l _)

theorem onlyLane_frameEnds (l : Lane) (i : SlotId) (start : Moment) (part : PartialFrame) (s : State) :
    OnlyLane l s (frameEnds l i start part s) := by
  unfold frameEnds
  split
  · exact onlyLane_brokenAtEnd l _ _ _ _ s
  · exact ((onlyLane_bump l _ s).trans (onlyLane_takeGoodFrame l _ _)).trans (onlyLane_enterHunt l _)

theorem onlyLane_orphan (l : Lane) (i : SlotId) (k : Nat) (s : State) : OnlyLane l s (orphan l i k s) :=
  (onlyLane_bump l _ s).trans (onlyLane_setDecoder l _ _)

theorem onlyLane_claimCapture (l : Lane) (s : State) : OnlyLane l s (claimCapture l s).2 := by
  unfold claimCapture
  split
  · split
    · rename_i h; exact onlyLane_takeBuffer h
    · exact onlyLane_bump l _ s
  · exact onlyLane_bump l _ s

theorem onlyLane_firstMarkEnds (l : Lane) (start : Moment) (m : Nat) (s : State) :
    OnlyLane l s (firstMarkEnds l start m s) := by
  unfold firstMarkEnds
  split
  · exact onlyLane_setDecoder l _ s
  · have h := onlyLane_claimCapture l s
    split <;> rename_i hc <;> rw [hc] at h <;> exact h.trans (onlyLane_setDecoder l _ _)

theorem onlyLane_unclassifiedSpace (l : Lane) (start : Moment) (m d : Nat) (mark : Option Moment) (s : State) :
    OnlyLane l s (unclassifiedSpace l start m d mark s) := by
  unfold unclassifiedSpace
  have h := onlyLane_claimCapture l s
  dsimp only
  split
  · split <;> rename_i hc <;> rw [hc] at h <;> exact h.trans (onlyLane_setDecoder l _ _)
  · have h' : OnlyLane l s
        (match claimCapture l s with
        | (some b, s') => finishCapture l b start .ok [⟨m, (s.lane l).settings.settleSilence⟩] s'
        | (none, s') => s') := by
      split <;> rename_i hc <;> rw [hc] at h
      · exact h.trans (onlyLane_finishCapture l _ _ _ _ _)
      · exact h
    split
    · exact (h'.trans (onlyLane_enterHunt l _)).trans (onlyLane_setDecoder l _ _)
    · exact (h'.trans (onlyLane_enterHunt l _)).trans (onlyLane_markOverrun l _)
    · exact h'.trans (onlyLane_enterHunt l _)

theorem onlyLane_firstSpaceEnds (l : Lane) (start : Moment) (m : Nat) (cands : List Candidate) (d : Nat) (edge : Moment)
    (s : State) : OnlyLane l s (firstSpaceEnds l start m cands d edge s) := by
  unfold firstSpaceEnds
  split
  · exact onlyLane_setDecoder l _ s
  · exact onlyLane_setDecoder l _ s
  · exact onlyLane_orphan l _ _ s
  · exact onlyLane_unclassifiedSpace l _ _ _ _ s

theorem onlyLane_symbolTaken (l : Lane) (start : Moment) (i : SlotId) (k d : Nat) (level : Bool) (part : PartialFrame)
    (s : State) : OnlyLane l s (symbolTaken l start i k d level part s) := by
  unfold symbolTaken
  split
  · exact onlyLane_setDecoder l _ s
  · exact onlyLane_brokenInside l _ _ _ _ _ s
  · exact onlyLane_brokenInside l _ _ _ _ _ s

theorem onlyLane_closingMarkEnds (l : Lane) (i : SlotId) (k d : Nat) (s : State) :
    OnlyLane l s (closingMarkEnds l i k d s) := by
  unfold closingMarkEnds
  dsimp only
  split
  · exact .refl l s
  · exact onlyLane_orphan l _ _ s

theorem onlyLane_captureSpace (l : Lane) (w : CaptureWork) (d : Nat) (s : State) :
    OnlyLane l s (captureSpace l w d s) := by
  unfold captureSpace
  split
  · exact .refl l s
  · dsimp only
    split
    · exact onlyLane_setDecoder l _ s
    · exact (onlyLane_setDecoder l _ s).trans (onlyLane_finishCapture l _ _ _ _ _)

theorem onlyLane_takeTransition (l : Lane) (mark : Bool) (edge : Moment) (ended : Option Nat) (s : State) :
    OnlyLane l s (takeTransition l mark edge ended s) := by
  unfold takeTransition
  split
  · exact .refl l s
  · split
    · exact onlyLane_blindMark l _ s
    · exact .refl l s
  · split
    · exact onlyLane_setDecoder l _ s
    · exact .refl l s
  · split
    · exact onlyLane_firstMarkEnds l _ _ s
    · exact .refl l s
  · split
    · exact onlyLane_firstSpaceEnds l _ _ _ _ _ s
    · exact .refl l s
  · split
    · exact onlyLane_symbolTaken l _ _ _ _ _ _ s
    · exact .refl l s
  · split
    · exact onlyLane_closingMarkEnds l _ _ _ s
    · exact onlyLane_orphan l _ _ s
    · exact .refl l s
  · split
    · exact .refl l s
    · exact onlyLane_enterHunt l s
  · exact .refl l s
  · exact .refl l s
  · split
    · exact onlyLane_setDecoder l _ s
    · exact onlyLane_captureSpace l _ _ s
    · exact .refl l s

theorem onlyLane_lineStuck (l : Lane) (edge : Moment) (s : State) : OnlyLane l s (lineStuck l edge s) :=
  (((onlyLane_abandonWork l s).trans (onlyLane_modLane l _ _)).trans (onlyLane_enterOutbox l _ _)).trans
    (onlyLane_setDecoder l _ _)

theorem onlyLane_spaceCrossing (l : Lane) (threshold : Nat) (s : State) : OnlyLane l s (spaceCrossing l threshold s) := by
  unfold spaceCrossing
  split
  · exact onlyLane_unclassifiedSpace l _ _ _ _ s
  · split
    · exact onlyLane_frameEnds l _ _ _ s
    · exact onlyLane_brokenAtEnd l _ _ _ _ s
    · exact onlyLane_brokenAtEnd l _ _ _ _ s
  · exact (onlyLane_enterHunt l s).trans (onlyLane_takeRepeatCode l _ _ _)
  · exact onlyLane_enterHunt l s
  · split
    · exact .refl l s
    · exact ((onlyLane_setDecoder l _ s).trans (onlyLane_finishCapture l _ _ _ _ _)).trans (onlyLane_enterHunt l _)
  · exact .refl l s
  · exact .refl l s
  · exact .refl l s
  · exact .refl l s

theorem onlyLane_takeCrossing (l : Lane) (mark : Bool) (edge : Moment) (threshold : Nat) (s : State) :
    OnlyLane l s (takeCrossing l mark edge threshold s) := by
  unfold takeCrossing
  split
  · exact onlyLane_lineStuck l _ s
  · exact onlyLane_spaceCrossing l _ s

theorem onlyLane_reportCrossings (l : Lane) (cutoff : Moment) (n : Nat) (s : State) :
    OnlyLane l s (reportCrossings l cutoff n s) := by
  induction n generalizing s with
  | zero => exact .refl l s
  | succ n ih =>
    unfold reportCrossings
    split
    · exact .refl l s
    · exact (onlyLane_takeCrossing l _ _ _ s).trans (ih _)

theorem onlyLane_crossingsNow (l : Lane) (s : State) : OnlyLane l s (crossingsNow l s) := by
  unfold crossingsNow
  split
  · exact .refl l s
  · split
    · exact onlyLane_reportCrossings l _ _ s
    · exact .refl l s

theorem onlyLane_crossingsAtOnce (l : Lane) (s : State) : OnlyLane l s (crossingsAtOnce l s) := by
  unfold crossingsAtOnce
  split
  · exact .refl l s
  · exact onlyLane_reportCrossings l _ _ s

/-! ## Conditioner -/

theorem onlyLane_restartInput (l : Lane) (s : State) : OnlyLane l s (restartInput l s) := by
  unfold restartInput
  split
  · exact (onlyLane_modLane l _ s).trans (onlyLane_enterHunt l _)
  · exact onlyLane_modLane l _ s

theorem onlyLane_withdrawBlind (l : Lane) (s : State) : OnlyLane l s (withdrawBlind l s) := by
  unfold withdrawBlind
  split
  · exact ((onlyLane_modLane l _ s).trans (onlyLane_enterHunt l _)).trans (onlyLane_crossingsAtOnce l _)
  · exact onlyLane_modLane l _ s

theorem onlyLane_takeConfirmed (l : Lane) (edge : Moment) (s : State) : OnlyLane l s (takeConfirmed l edge s) := by
  unfold takeConfirmed
  dsimp only
  split
  · exact .refl l s
  · exact ((onlyLane_modLane l _ s).trans (onlyLane_takeTransition l _ _ _ _)).trans (onlyLane_crossingsNow l _)

theorem onlyLane_confirmExcursion (l : Lane) (edge : Moment) (s : State) : OnlyLane l s (confirmExcursion l edge s) :=
  (onlyLane_reportCrossings l _ _ s).trans (onlyLane_takeConfirmed l _ _)

theorem onlyLane_confirmHeld (l : Lane) (s : State) : OnlyLane l s (confirmHeld l s) := by
  unfold confirmHeld
  split
  · exact .refl l s
  · exact onlyLane_confirmExcursion l _ s

theorem onlyLane_takePinEdge (l : Lane) (high : Bool) (s : State) : OnlyLane l s (takePinEdge l high s) := by
  unfold takePinEdge
  split
  · exact .refl l s
  · dsimp only
    have h := (onlyLane_modLane l (fun x => { x with pinHigh := high }) s).trans (onlyLane_confirmHeld l _)
    split
    · exact (h.trans (onlyLane_modLane l _ _)).trans (onlyLane_crossingsNow l _)
    · exact (h.trans (onlyLane_modLane l _ _)).trans (onlyLane_confirmHeld l _)

/-! ## Transmit sequencer -/

theorem onlyLane_startEchoGuard (l : Lane) (s : State) : OnlyLane l s (startEchoGuard l s) := by
  unfold startEchoGuard
  dsimp only
  split
  · exact onlyLane_withdrawBlind l s
  · exact onlyLane_modLane l _ s

theorem onlyLane_leaveLine (l : Lane) (r : ActiveRequest) (s : State) : OnlyLane l s (leaveLine l r s) := by
  unfold leaveLine
  dsimp only
  split
  · exact (onlyLane_modLane l _ s).trans (onlyLane_startEchoGuard l _)
  · exact onlyLane_modLane l _ s

theorem onlyLane_afterTransmission (l : Lane) (r : ActiveRequest) (s : State) :
    OnlyLane l s (afterTransmission l r s) := by
  unfold afterTransmission
  split
  · split
    · exact onlyLane_modSeq l _ s
    · exact onlyLane_finish l _ _ _ s
  · split
    · exact onlyLane_modSeq l _ s
    · exact onlyLane_finish l _ _ _ s
  · split
    · exact onlyLane_finish l _ _ _ s
    · exact onlyLane_modSeq l _ s
  · exact onlyLane_modSeq l _ s

theorem onlyLane_transmissionEnds (l : Lane) (s : State) : OnlyLane l s (transmissionEnds l s) := by
  unfold transmissionEnds
  dsimp only
  split
  · split
    · exact (onlyLane_leaveLine l _ s).trans (onlyLane_afterTransmission l _ _)
    · exact .refl l s
  · exact .refl l s

theorem onlyLane_deferOrStart (l : Lane) (s : State) : OnlyLane l s (deferOrStart l s) := by
  unfold deferOrStart
  dsimp only
  split
  · exact onlyLane_modSeq l _ s
  · exact onlyLane_startTransmission l _ s

theorem onlyLane_spacingExpires (l : Lane) (s : State) : OnlyLane l s (spacingExpires l s) := by
  unfold spacingExpires
  dsimp only
  split
  · split
    · split
      · exact onlyLane_deferOrStart l s
      · exact onlyLane_startTransmission l _ s
    · exact onlyLane_startTransmission l _ s
    · exact .refl l s
  · exact .refl l s

theorem onlyLane_deferExpires (l : Lane) (s : State) : OnlyLane l s (deferExpires l s) := by
  unfold deferExpires
  dsimp only
  split
  · split
    · split
      · exact onlyLane_finish l _ _ _ s
      · exact onlyLane_startTransmission l _ s
    · exact .refl l s
  · exact .refl l s

theorem onlyLane_holdLimitExpires (l : Lane) (s : State) : OnlyLane l s (holdLimitExpires l s) := by
  unfold holdLimitExpires
  dsimp only
  split
  · split
    · exact onlyLane_modSeq l _ s
    · exact onlyLane_endHold l _ _ s
    · exact .refl l s
  · exact .refl l s

theorem onlyLane_replyExpires (l : Lane) (s : State) : OnlyLane l s (replyExpires l s) := by
  unfold replyExpires
  dsimp only
  split
  · split
    · split
      · exact (onlyLane_modSeq l _ s).trans (onlyLane_modSeq l _ _)
      · exact onlyLane_finish l _ _ _ s
    · exact .refl l s
  · exact .refl l s

theorem onlyLane_takeEntry (l : Lane) (e : RequestEntry) (s : State) : OnlyLane l s (takeEntry l e s) := by
  unfold takeEntry
  dsimp only
  have h : OnlyLane l s (advanceHead l s) := onlyLane_modLane l _ s
  split
  · exact (h.trans (onlyLane_modSeq l _ _)).trans (onlyLane_answer l _ _ _ _ _)
  · split
    · exact h.trans (onlyLane_answer l _ _ _ _ _)
    · exact h.trans (onlyLane_modSeq l _ _)

theorem onlyLane_enterGap (l : Lane) (due : Moment) (s : State) : OnlyLane l s (enterGap l due s) :=
  onlyLane_modSeq l _ s

theorem onlyLane_firstGap (l : Lane) (s : State) : OnlyLane l s (firstGap l s) := by
  unfold firstGap
  exact onlyLane_enterGap l _ s

theorem onlyLane_activate (l : Lane) (e : RequestEntry) (kind : RequestKind) (s : State) :
    OnlyLane l s (activate l e kind s) := by
  unfold activate
  dsimp only
  have h : OnlyLane l s (s.modSeq l fun q => { q with taken := none, active := some (activeOf s kind e) }) :=
    onlyLane_modSeq l _ s
  split
  · split
    · exact h.trans (onlyLane_finish l _ _ _ _)
    · split
      · exact (h.trans (onlyLane_modSeq l _ _)).trans (onlyLane_askSequencer l _ _)
      · exact h.trans (onlyLane_firstGap l _)
  · exact onlyLane_answer l _ _ _ _ s

theorem onlyLane_activationTaken (l : Lane) (s : State) : OnlyLane l s (activationTaken l s) := by
  unfold activationTaken
  split
  · exact .refl l s
  · split
    · exact .refl l s
    · exact onlyLane_activate l _ _ s

theorem onlyLane_listArrives (l : Lane) (r : ActiveRequest) (pairs : List RawPair) (s : State) :
    OnlyLane l s (listArrives l r pairs s) := by
  unfold listArrives
  split
  · exact (onlyLane_modSeq l _ s).trans (onlyLane_firstGap l _)
  · exact onlyLane_finish l _ _ _ s

theorem onlyLane_releaseHold {l : Lane} {tag : Half} {s t : State} (h : releaseHold l tag s = some t) :
    OnlyLane l s t := by
  unfold releaseHold at h
  dsimp only at h
  split at h
  · cases h
  · split at h <;> cases h <;> first | exact onlyLane_modSeq l _ s | exact onlyLane_endHold l _ _ s

theorem onlyLane_discardListRead (l : Lane) (s : State) : OnlyLane l s (discardListRead l s) := by
  unfold discardListRead
  dsimp only
  split
  · exact .refl l s
  · exact onlyLane_setBus (.inl rfl) _ s
  · exact onlyLane_setBus (.inl rfl) _ s

theorem onlyLane_abortActive (l : Lane) (r : ActiveRequest) (s : State) : OnlyLane l s (abortActive l r s) := by
  unfold abortActive
  have h := (onlyLane_discardListRead l s).trans (onlyLane_setEndCause l r none _)
  dsimp only
  split
  · exact h.trans (onlyLane_finish l _ _ _ _)
  · exact (h.trans (onlyLane_leaveLine l _ _)).trans (onlyLane_finish l _ _ _ _)

theorem onlyLane_abortInHand (l : Lane) (flush : Bool) (s : State) : OnlyLane l s (abortInHand l flush s).1 := by
  unfold abortInHand
  dsimp only
  split
  · exact .refl l s
  · exact onlyLane_abortActive l _ s
  · split
    · exact onlyLane_answer l _ _ _ _ s
    · exact .refl l s
  · exact .refl l s

theorem onlyLane_claimRequestQueue {l : Lane} {a : RequestQueueArgs} {s t : State}
    (h : claimRequestQueue l a s = some t) : OnlyLane l s t := by
  unfold claimRequestQueue at h
  dsimp only at h
  rw [Option.ite_none_right_eq_some] at h
  rw [← Option.some.inj h.2]
  exact onlyLane_modLane l _ s

theorem onlyLane_noticeRequestQueue {l : Lane} {tail : Nat} {s t : State} (h : noticeRequestQueue l tail s = some t) :
    OnlyLane l s t := by
  unfold noticeRequestQueue at h
  dsimp only at h
  split at h
  · cases h
  all_goals
    split at h
    · simp only [Option.some.injEq] at h; subst h
      exact (onlyLane_modLane l _ s).trans (onlyLane_fetchCheck l _)
    · cases h

/-! ## What reaches a lane as a whole -/

theorem onlyLane_quietDecoder (l : Lane) (s : State) : OnlyLane l s (quietDecoder l s) :=
  (onlyLane_abandonWork l s).trans (onlyLane_modLane l _ _)

theorem onlyLane_settlePressAndGate (l : Lane) (new : LaneSettings) (g : GateCommand) (s : State) :
    OnlyLane l s (settlePressAndGate l new g s) := by
  unfold settlePressAndGate
  dsimp only
  split
  · exact (onlyLane_closePress l s).trans (onlyLane_modLane l _ _)
  · exact onlyLane_modLane l _ s

theorem onlyLane_applySettings (l : Lane) (new : LaneSettings) (g : GateCommand) (s : State) :
    OnlyLane l s (applySettings l new g s) := by
  unfold applySettings
  dsimp only
  have h := (((onlyLane_settlePressAndGate l new g s).trans (onlyLane_quietDecoder l _)).trans
    (onlyLane_modLane l (fun x => { x with settings := new }) _)).trans (onlyLane_restartInput l _)
  split
  · exact h.trans (onlyLane_fetchCheck l _)
  · exact h

end Sys2Proof.Machine
end

