-- ==== Sys2Proof/Laws/Ops.lean ====
section
/-! SUPPORT. What the operations of Machine/Ops.lean and of the event writer can do, said once each. -/

namespace Sys2Proof.Machine

/-! ## Numbers and timers -/

theorem satInc_toNat {w : Nat} (x : BitVec w) : (satInc x).toNat = min (x.toNat + 1) (2 ^ w - 1) := by
  unfold satInc
  have hx := x.isLt
  split
  · rename_i h
    subst h
    simp only [BitVec.toNat_allOnes]
    omega
  · rename_i h
    have hne : x.toNat ≠ 2 ^ w - 1 := by
      intro e
      exact h (BitVec.eq_of_toNat_eq (by rw [e, BitVec.toNat_allOnes]))
    rw [BitVec.toNat_add]
    by_cases hw : w = 0
    · subst hw
      simp at hx
      omega
    · have h1 : (1#w).toNat = 1 := by
        rw [BitVec.toNat_ofNat]
        exact Nat.mod_eq_of_lt (Nat.one_lt_two_pow hw)
      rw [show (1 : BitVec w).toNat = 1 from h1, Nat.mod_eq_of_lt (by omega)]
      omega

theorem satAdd_toNat {w : Nat} (x y : BitVec w) : (satAdd x y).toNat = min (x.toNat + y.toNat) (2 ^ w - 1) := by
  unfold satAdd
  split
  · rename_i h
    rw [BitVec.toNat_add, Nat.mod_eq_of_lt h]
    omega
  · rw [BitVec.toNat_allOnes]
    omega

theorem expired_iff {timer : Option Moment} {now : Moment} :
    expired timer now = true ↔ ∃ due, timer = some due ∧ due ≤ now := by
  unfold expired
  split <;> simp

/-- The first failing check decides, and it is the one whose predecessors all pass. -/
theorem firstBad_eq_some {checks : List (Nat × Bool)} {n : Nat} :
    firstBad checks = some n ↔
      ∃ before after, checks = before ++ (n, false) :: after ∧ ∀ c ∈ before, c.2 = true := by
  induction checks with
  | nil => simp [firstBad]
  | cons c rest ih =>
    obtain ⟨m, ok⟩ := c
    unfold firstBad
    cases ok
    · simp only [Bool.false_eq_true, if_false, Option.some.injEq]
      constructor
      · rintro rfl; exact ⟨[], rest, rfl, by simp⟩
      · rintro ⟨before, after, h, hb⟩
        cases before with
        | nil => simp at h; exact h.1
        | cons b bs =>
          simp only [List.cons_append, List.cons.injEq] at h
          have := hb b (by simp)
          rw [← h.1] at this
          simp at this
    · simp only [if_true, ih]
      constructor
      · rintro ⟨before, after, rfl, hb⟩
        exact ⟨(m, true) :: before, after, rfl, by simpa using hb⟩
      · rintro ⟨before, after, h, hb⟩
        cases before with
        | nil => simp at h
        | cons b bs =>
          simp only [List.cons_append, List.cons.injEq] at h
          exact ⟨bs, after, h.2, fun c hc => hb c (by simp [hc])⟩

/-- Every check passes. -/
theorem firstBad_eq_none {checks : List (Nat × Bool)} : firstBad checks = none ↔ ∀ c ∈ checks, c.2 = true := by
  induction checks with
  | nil => simp [firstBad]
  | cons c rest ih =>
    unfold firstBad
    cases h : c.2 <;> simp [h, ih]

/-! ## Counters -/

theorem bump_lane (l l' : Lane) (c : LaneCounter) (s : State) :
    (bump l c s).lane l' =
      if l' = l then
        { s.lane l with counters := (s.lane l).counters.set c.index.val (satInc ((s.lane l).counter c)) }
      else s.lane l' := State.modLane_lane s l l' _

/-- Only the counter named moves, by one, saturating. -/
theorem bump_counter (l : Lane) (c c' : LaneCounter) (s : State) :
    ((bump l c s).lane l).counter c' = if c' = c then satInc ((s.lane l).counter c) else (s.lane l).counter c' := by
  rw [bump_lane, if_pos rfl]
  show ((s.lane l).counters.set c.index.val (satInc ((s.lane l).counter c)))[c'.index.val] = _
  rw [Vector.getElem_set]
  by_cases h : c' = c
  · subst h; simp
  · rw [if_neg h, if_neg]
    · rfl
    · cases c <;> cases c' <;> first | exact absurd rfl h | decide

/-! ## Bus port -/

theorem askBus_of_idle {c : BusClient} {s : State} (h : s.busSlot c = .idle) (t : Transaction) :
    askBus c t s = s.setBus c (.pending t) := by
  unfold askBus
  rw [h]

theorem askBus_of_not_idle {c : BusClient} {s : State} (h : s.busSlot c ≠ .idle) (t : Transaction) :
    askBus c t s = s := by
  unfold askBus
  split
  · contradiction
  · rfl
  · rfl

/-- A client's request either takes its free place or changes nothing. -/
theorem askBus_cases (c : BusClient) (t : Transaction) (s : State) :
    s.busSlot c = .idle ∧ askBus c t s = s.setBus c (.pending t) ∨ s.busSlot c ≠ .idle ∧ askBus c t s = s := by
  by_cases h : s.busSlot c = .idle
  · exact .inl ⟨h, askBus_of_idle h t⟩
  · exact .inr ⟨h, askBus_of_not_idle h t⟩

theorem endTransaction_running {c : BusClient} {wanted : Purpose → Bool} {act : Transaction → State → State} {s : State}
    {t : Transaction} (he : s.engine = .running) (hs : s.busSlot c = .outstanding t) (hw : wanted t.purpose = true) :
    endTransaction c wanted act s = act t (s.setBus c .idle) := by
  unfold endTransaction
  simp [hs, hw, he]

theorem endTransaction_stopping {c : BusClient} {wanted : Purpose → Bool} {act : Transaction → State → State} {s : State}
    {t : Transaction} (he : s.engine = .stopping) (hs : s.busSlot c = .outstanding t) (hw : wanted t.purpose = true) :
    endTransaction c wanted act s = stoppingEnd c s := by
  unfold endTransaction
  simp [hs, hw, he]

/-- The end of a transaction acts on an outstanding transaction of a wanted purpose, by the engine's state, and otherwise
changes nothing. -/
theorem endTransaction_cases (c : BusClient) (wanted : Purpose → Bool) (act : Transaction → State → State) (s : State) :
    (∃ t, s.busSlot c = .outstanding t ∧ wanted t.purpose = true ∧
        ((s.engine = .running ∧ endTransaction c wanted act s = act t (s.setBus c .idle)) ∨
          (s.engine = .stopping ∧ endTransaction c wanted act s = stoppingEnd c s))) ∨
      endTransaction c wanted act s = s := by
  unfold endTransaction
  split
  · rename_i t ht
    by_cases hw : wanted t.purpose = true
    · rw [if_pos hw]
      cases he : s.engine
      · exact .inr rfl
      · exact .inl ⟨t, ht, hw, .inl ⟨rfl, rfl⟩⟩
      · exact .inl ⟨t, ht, hw, .inr ⟨rfl, rfl⟩⟩
    · rw [if_neg hw]
      exact .inr rfl
  · exact .inr rfl
  · exact .inr rfl

/-- What a start at the bus port does: the granted request goes out and the pointer passes it. -/
theorem startTransaction_cases (s : State) :
    (∃ i t, grantFrom s.bus.slots s.bus.pointer = some i ∧ s.bus.slots[i.val] = .pending t ∧
        startTransaction s =
          { s with bus := { slots := s.bus.slots.set i.val (.outstanding t), pointer := i + 1 } }) ∨
      startTransaction s = s := by
  unfold startTransaction
  split
  · exact .inr rfl
  · rename_i i hi
    split
    · rename_i t ht
      exact .inl ⟨i, t, hi, ht, rfl⟩
    · exact .inr rfl
    · exact .inr rfl

/-- The granted client has a pending request. -/
theorem grantFrom_pending {slots : Vector BusSlot 10} {pointer i : Fin 10} (h : grantFrom slots pointer = some i) :
    ∃ t, slots[i.val] = .pending t := by
  unfold grantFrom at h
  have := List.find?_some h
  revert this
  split <;> simp_all

/-! ## Capture list -/

theorem takeBuffer_eq_some {l : Lane} {s t : State} {b : Word} :
    takeBuffer l s = some (b, t) ↔
      ∃ rest, s.captureList = b :: rest ∧ (s.lane l).capture = none ∧ t = { s with captureList := rest } := by
  unfold takeBuffer
  split
  · rename_i b' rest h1 h2
    simp only [h1, h2, Option.some.injEq, Prod.mk.injEq, List.cons.injEq]
    constructor
    · rintro ⟨rfl, rfl⟩
      exact ⟨rest, ⟨rfl, rfl⟩, trivial, rfl⟩
    · rintro ⟨rest', ⟨rfl, rfl⟩, -, rfl⟩
      exact ⟨rfl, rfl⟩
  · rename_i h
    constructor
    · simp
    · rintro ⟨rest, h1, h2, -⟩
      exact absurd h2 (h b rest h1)

theorem returnBuffer_eq (b : Word) (s : State) : returnBuffer b s = { s with captureList := s.captureList ++ [b] } := rfl

/-! ## Event writer -/

/-- What the event writer serves next is offered to a queue that can take it. -/
theorem nextServed_servable {s : State} {w : Writer} {q : EqId} (h : s.nextServed = some (w, q)) :
    s.servable w = some q := by
  unfold State.nextServed at h
  obtain ⟨w', -, hw⟩ := List.exists_of_findSome?_eq_some h
  cases hs : s.servable w' with
  | none => rw [hs] at hw; cases hw
  | some q' => rw [hs] at hw; cases hw; exact hs

theorem servable_eq_some {s : State} {w : Writer} {q : EqId} :
    s.servable w = some q ↔ s.offer w = some q ∧ (s.eq q).canTake = true := by
  unfold State.servable
  split
  · rename_i h; simp [h]
  · rename_i q' h
    rw [h]
    by_cases hc : (s.eq q').canTake = true
    · rw [if_pos hc]
      simp only [Option.some.injEq]
      constructor
      · rintro rfl; exact ⟨rfl, hc⟩
      · exact fun h => h.1
    · rw [if_neg hc]
      simp only [Option.some.injEq]
      constructor
      · simp
      · rintro ⟨rfl, h⟩; exact absurd h hc

theorem canTake_iff {q : EventQueue} : q.canTake = true ↔ q.state = .running ∧ q.unread < q.size := by
  simp [EventQueue.canTake]

/-- The write the event writer asks for when it serves a writer into a queue (R125). -/
def eventWrite (s : State) (w : Writer) (q : EqId) : Transaction :=
  { purpose := .event, address := (s.eq q).base + 32 * BitVec.ofNat 32 (s.eq q).tail, length := 32,
    data := s.eventBytes (s.eq q).phase w }

/-- The event writer makes a choice and asks for its write, or it changes nothing. -/
theorem chooseEvent_cases (s : State) :
    (∃ w q, s.engine = .running ∧ s.writer.inFlight = none ∧ s.nextServed = some (w, q) ∧
        chooseEvent s =
          askBus .eventWriter (eventWrite s w q) { s with writer := { s.writer with inFlight := some (w, q) } }) ∨
      chooseEvent s = s := by
  unfold chooseEvent
  split
  · rename_i he hw
    split
    · exact .inr rfl
    · rename_i w q hn
      exact .inl ⟨w, q, he, hw, hn, rfl⟩
  · exact .inr rfl

/-- A choice changes the write in flight and the event writer's place in the bus port, and nothing else. -/
theorem chooseEvent_frame (s : State) :
    ∃ f b, chooseEvent s =
      { s with writer := { s.writer with inFlight := f }, bus := { s.bus with slots := b } } ∧
      ∀ c, c ≠ .eventWriter → (chooseEvent s).busSlot c = s.busSlot c := by
  rcases chooseEvent_cases s with ⟨w, q, -, -, -, h⟩ | h
  · rcases askBus_cases .eventWriter (eventWrite s w q)
        { s with writer := { s.writer with inFlight := some (w, q) } } with ⟨-, h'⟩ | ⟨-, h'⟩
    · refine ⟨some (w, q), _, h.trans h', fun c hc => ?_⟩
      rw [h, h', State.setBus_busSlot_ne _ _ hc]
      rfl
    · refine ⟨some (w, q), s.bus.slots, h.trans h', fun c _ => ?_⟩
      rw [h, h']
      rfl
  · exact ⟨s.writer.inFlight, s.bus.slots, by rw [h], fun c _ => by rw [h]⟩

@[simp] theorem chooseEvent_engine (s : State) : (chooseEvent s).engine = s.engine := by
  obtain ⟨f, b, h, -⟩ := chooseEvent_frame s
  rw [h]

@[simp] theorem chooseEvent_irqEnable (s : State) : (chooseEvent s).irqEnable = s.irqEnable := by
  obtain ⟨f, b, h, -⟩ := chooseEvent_frame s
  rw [h]

@[simp] theorem chooseEvent_adminFault (s : State) : (chooseEvent s).adminFault = s.adminFault := by
  obtain ⟨f, b, h, -⟩ := chooseEvent_frame s
  rw [h]

@[simp] theorem chooseEvent_submitError (s : State) : (chooseEvent s).submitError = s.submitError := by
  obtain ⟨f, b, h, -⟩ := chooseEvent_frame s
  rw [h]

@[simp] theorem chooseEvent_ackError (s : State) : (chooseEvent s).ackError = s.ackError := by
  obtain ⟨f, b, h, -⟩ := chooseEvent_frame s
  rw [h]

@[simp] theorem chooseEvent_adminBase (s : State) : (chooseEvent s).adminBase = s.adminBase := by
  obtain ⟨f, b, h, -⟩ := chooseEvent_frame s
  rw [h]

@[simp] theorem chooseEvent_clock (s : State) : (chooseEvent s).clock = s.clock := by
  obtain ⟨f, b, h, -⟩ := chooseEvent_frame s
  rw [h]

@[simp] theorem chooseEvent_admin (s : State) : (chooseEvent s).admin = s.admin := by
  obtain ⟨f, b, h, -⟩ := chooseEvent_frame s
  rw [h]

@[simp] theorem chooseEvent_slots (s : State) : (chooseEvent s).slots = s.slots := by
  obtain ⟨f, b, h, -⟩ := chooseEvent_frame s
  rw [h]

@[simp] theorem chooseEvent_matchTable (s : State) : (chooseEvent s).matchTable = s.matchTable := by
  obtain ⟨f, b, h, -⟩ := chooseEvent_frame s
  rw [h]

@[simp] theorem chooseEvent_lanes (s : State) : (chooseEvent s).lanes = s.lanes := by
  obtain ⟨f, b, h, -⟩ := chooseEvent_frame s
  rw [h]

@[simp] theorem chooseEvent_captureList (s : State) : (chooseEvent s).captureList = s.captureList := by
  obtain ⟨f, b, h, -⟩ := chooseEvent_frame s
  rw [h]

@[simp] theorem chooseEvent_heldCount (s : State) : (chooseEvent s).heldCount = s.heldCount := by
  obtain ⟨f, b, h, -⟩ := chooseEvent_frame s
  rw [h]

@[simp] theorem chooseEvent_eqs (s : State) : (chooseEvent s).eqs = s.eqs := by
  obtain ⟨f, b, h, -⟩ := chooseEvent_frame s
  rw [h]

@[simp] theorem chooseEvent_freeIndex (s : State) : (chooseEvent s).freeIndex = s.freeIndex := by
  obtain ⟨f, b, h, -⟩ := chooseEvent_frame s
  rw [h]

@[simp] theorem chooseEvent_pending (s : State) : (chooseEvent s).pending = s.pending := by
  obtain ⟨f, b, h, -⟩ := chooseEvent_frame s
  rw [h]

@[simp] theorem chooseEvent_lane (s : State) (l : Lane) : (chooseEvent s).lane l = s.lane l := by
  obtain ⟨f, b, h, -⟩ := chooseEvent_frame s
  rw [h]
  rfl

@[simp] theorem chooseEvent_eq (s : State) (q : EqId) : (chooseEvent s).eq q = s.eq q := by
  obtain ⟨f, b, h, -⟩ := chooseEvent_frame s
  rw [h]
  rfl

@[simp] theorem chooseEvent_slot (s : State) (i : SlotId) : (chooseEvent s).slot i = s.slot i := by
  obtain ⟨f, b, h, -⟩ := chooseEvent_frame s
  rw [h]
  rfl

@[simp] theorem chooseEvent_entry (s : State) (i : EntryId) : (chooseEvent s).entry i = s.entry i := by
  obtain ⟨f, b, h, -⟩ := chooseEvent_frame s
  rw [h]
  rfl

@[simp] theorem chooseEvent_profile (s : State) (i : SlotId) : (chooseEvent s).profile i = s.profile i := by
  obtain ⟨f, b, h, -⟩ := chooseEvent_frame s
  rw [h]
  rfl

theorem chooseEvent_busSlot (s : State) {c : BusClient} (h : c ≠ .eventWriter) :
    (chooseEvent s).busSlot c = s.busSlot c := (chooseEvent_frame s).choose_spec.choose_spec.2 c h

@[simp] theorem chooseEvent_pointer (s : State) : (chooseEvent s).bus.pointer = s.bus.pointer := by
  obtain ⟨f, b, h, -⟩ := chooseEvent_frame s
  rw [h]

/-! ## The outbox -/

/-- An event enters the list with the lost count, or is discarded and counted (R62, R63). -/
theorem enterOutbox_cases (l : Lane) (ev : RxEvent) (s : State) :
    ((s.lane l).outbox.events.length < 4 ∧
        enterOutbox l ev s =
          s.modLane l fun x =>
            { x with outbox :=
                { x.outbox with events := x.outbox.events ++ [{ ev with lost := x.outbox.lost }], lost := 0 } }) ∨
      (4 ≤ (s.lane l).outbox.events.length ∧
        enterOutbox l ev s =
          { bump l .lostEvents
              (s.modLane l fun x => { x with outbox := { x.outbox with lost := satInc x.outbox.lost } }) with
            captureList := s.captureList ++ (if ev.kind = .capture then [ev.aux] else []) }) := by
  unfold enterOutbox Config.outboxDepth
  dsimp only
  split
  · rename_i h
    exact .inl ⟨h, rfl⟩
  · rename_i h
    refine .inr ⟨by omega, ?_⟩
    cases hk : ev.kind <;> simp <;> rfl

end Sys2Proof.Machine
end

