-- ==== Sys2Proof/Laws/Records.lean ====
section
/-! SUPPORT. Fields of records: a field written low byte first reads back at its offset, whatever stands around it. -/

namespace Sys2Proof

@[simp] theorem halfBytes_length (x : Half) : (halfBytes x).length = 2 := rfl
@[simp] theorem wordBytes_length (x : Word) : (wordBytes x).length = 4 := rfl
@[simp] theorem maskBytes_length (x : Mask) : (maskBytes x).length = 8 := rfl
@[simp] theorem payloadBytes_length (x : Payload) : (payloadBytes x).length = 16 := rfl
@[simp] theorem reserved_length (n : Nat) : (reserved n).length = n := List.length_replicate

/-- A byte behind the first part of a record is the second part's byte. -/
theorem byteAt_append_add (a b : List Byte) (i : Nat) : byteAt (a ++ b) (a.length + i) = byteAt b i := by
  unfold byteAt
  simp only [List.getD_eq_getElem?_getD]
  rw [List.getElem?_append_right (by omega)]
  congr 2
  omega

theorem halfAt_append_add (a b : List Byte) (i : Nat) : halfAt (a ++ b) (a.length + i) = halfAt b i := by
  unfold halfAt
  rw [Nat.add_assoc, byteAt_append_add, byteAt_append_add]

theorem wordAt_append_add (a b : List Byte) (i : Nat) : wordAt (a ++ b) (a.length + i) = wordAt b i := by
  unfold wordAt
  rw [Nat.add_assoc, halfAt_append_add, halfAt_append_add]

theorem maskAt_append_add (a b : List Byte) (i : Nat) : maskAt (a ++ b) (a.length + i) = maskAt b i := by
  unfold maskAt
  rw [Nat.add_assoc, wordAt_append_add, wordAt_append_add]

theorem payloadAt_append_add (a b : List Byte) (i : Nat) : payloadAt (a ++ b) (a.length + i) = payloadAt b i := by
  unfold payloadAt
  rw [Nat.add_assoc, maskAt_append_add, maskAt_append_add]

/-- The two bytes of a 16-bit field. -/
theorem half_of_bytes (x : Half) : (x >>> 8).setWidth 8 ++ x.setWidth 8 = x := by
  apply BitVec.eq_of_getLsbD_eq
  intro i hi
  simp only [BitVec.getLsbD_append, BitVec.getLsbD_setWidth, BitVec.getLsbD_ushiftRight]
  by_cases h : i < 8
  · simp [h]
  · rw [if_neg h]
    have : i - 8 < 8 := by omega
    simp [this, Nat.add_sub_cancel' (show 8 ≤ i by omega)]

/-- The two halves of a 32-bit field. -/
theorem word_of_halves (x : Word) : (x >>> 16).setWidth 16 ++ x.setWidth 16 = x := by
  apply BitVec.eq_of_getLsbD_eq
  intro i hi
  simp only [BitVec.getLsbD_append, BitVec.getLsbD_setWidth, BitVec.getLsbD_ushiftRight]
  by_cases h : i < 16
  · simp [h]
  · rw [if_neg h]
    have : i - 16 < 16 := by omega
    simp [this, Nat.add_sub_cancel' (show 16 ≤ i by omega)]

/-- The two words of a 64-bit field. -/
theorem mask_of_words (x : Mask) : (x >>> 32).setWidth 32 ++ x.setWidth 32 = x := by
  apply BitVec.eq_of_getLsbD_eq
  intro i hi
  simp only [BitVec.getLsbD_append, BitVec.getLsbD_setWidth, BitVec.getLsbD_ushiftRight]
  by_cases h : i < 32
  · simp [h]
  · rw [if_neg h]
    have : i - 32 < 32 := by omega
    simp [this, Nat.add_sub_cancel' (show 32 ≤ i by omega)]

/-- The two 64-bit parts of a payload. -/
theorem payload_of_masks (x : Payload) : (x >>> 64).setWidth 64 ++ x.setWidth 64 = x := by
  apply BitVec.eq_of_getLsbD_eq
  intro i hi
  simp only [BitVec.getLsbD_append, BitVec.getLsbD_setWidth, BitVec.getLsbD_ushiftRight]
  by_cases h : i < 64
  · simp [h]
  · rw [if_neg h]
    have : i - 64 < 64 := by omega
    simp [this, Nat.add_sub_cancel' (show 64 ≤ i by omega)]

/-- A 16-bit field at the start of the rest of a record. -/
@[simp] theorem halfAt_halfBytes (x : Half) (rest : List Byte) : halfAt (halfBytes x ++ rest) 0 = x :=
  half_of_bytes x

/-- A 32-bit field at the start of the rest of a record. -/
@[simp] theorem wordAt_wordBytes (x : Word) (rest : List Byte) : wordAt (wordBytes x ++ rest) 0 = x := by
  unfold wordAt wordBytes
  rw [List.append_assoc, halfAt_halfBytes]
  have := halfAt_append_add (halfBytes (x.setWidth 16)) (halfBytes ((x >>> 16).setWidth 16) ++ rest) 0
  simp only [halfBytes_length, Nat.add_zero] at this
  rw [Nat.zero_add, this, halfAt_halfBytes, word_of_halves]

/-- A 64-bit field at the start of the rest of a record. -/
@[simp] theorem maskAt_maskBytes (x : Mask) (rest : List Byte) : maskAt (maskBytes x ++ rest) 0 = x := by
  unfold maskAt maskBytes
  rw [List.append_assoc, wordAt_wordBytes]
  have := wordAt_append_add (wordBytes (x.setWidth 32)) (wordBytes ((x >>> 32).setWidth 32) ++ rest) 0
  simp only [wordBytes_length, Nat.add_zero] at this
  rw [Nat.zero_add, this, wordAt_wordBytes, mask_of_words]

/-- A payload at the start of the rest of a record. -/
@[simp] theorem payloadAt_payloadBytes (x : Payload) (rest : List Byte) : payloadAt (payloadBytes x ++ rest) 0 = x := by
  unfold payloadAt payloadBytes
  rw [List.append_assoc, maskAt_maskBytes]
  have := maskAt_append_add (maskBytes (x.setWidth 64)) (maskBytes ((x >>> 64).setWidth 64) ++ rest) 0
  simp only [maskBytes_length, Nat.add_zero] at this
  rw [Nat.zero_add, this, maskAt_maskBytes, payload_of_masks]

end Sys2Proof
end

