-- ==== Sys2Proof/Tests/Slice0.lean ====
section
/-! SUPPORT. Checks of the model on small concrete cases: ill-formed commands refused, words and records written out from
their layouts, single steps whose results the manual gives, and, for every statement with hypotheses, states and operands
that meet them. -/

open Sys2Proof Sys2Proof.Machine Sys2Proof.Claims

namespace Sys2Proof.Tests

/-! ## WellFormed refuses a word that is not its row's happening -/

theorem test_wf_engine_reset : (Instr.engineReset 0).wellFormed = false := by decide
theorem test_wf_enable : (Instr.enable 0).wellFormed = false ∧ (Instr.enable 3).wellFormed = false := by decide
theorem test_wf_engine_stop :
    (Instr.engineStop 1).wellFormed = false ∧ (Instr.engineStop 2).wellFormed = false := by decide
theorem test_wf_irq_enable : (Instr.irqEnableWrite 6).wellFormed = false := by decide
theorem test_wf_submit_error : (Instr.submitErrorClear 0x10).wellFormed = false := by decide
theorem test_wf_ack_error : (Instr.ackErrorClear 8).wellFormed = false := by decide
theorem test_wf_admin_fault : (Instr.adminFaultClear 8).wellFormed = false := by decide
theorem test_wf_clear_notice : (Instr.clearNotice 0x7FFFFFFF).wellFormed = false := by decide
theorem test_wf_ignored_write :
    (Instr.registerWriteIgnored 4 4 0).wellFormed = false ∧ (Instr.registerWriteIgnored 4 5 0).wellFormed = false ∧
    (Instr.registerWriteIgnored 4 0 0).wellFormed = false ∧ (Instr.registerWriteIgnored 4 2 0).wellFormed = true := by
  decide
theorem test_wf_unknown_command :
    (Instr.unknownCommand 12 0).wellFormed = false ∧ (Instr.unknownCommand 13 0).wellFormed = true := by decide
theorem test_wf_pair_list :
    (Instr.pairListReadEnd 0 (some [])).wellFormed = false ∧
    (Instr.pairListReadEnd 0 (some (List.replicate 129 ⟨1, 1⟩))).wellFormed = false := by simp [Instr.wellFormed]

/-! ## Words and records, written out from their layouts -/

/-- The opcode table gives no row bits: no word spells a command. -/
theorem test_table_words : decodeTableWord 0 0 = none ∧ decodeTableWord 32 0x40 = none := by decide

/-- CONTROL: RESET in bit 1, ENABLE in bit 0 (10.4). -/
theorem test_host_control :
    decodeHostWrite 0x04 4 0b110 = .engineReset 0b110 ∧ decodeHostWrite 0x04 4 0b101 = .enable 0b101 ∧
    decodeHostWrite 0x04 4 0b100 = .engineStop 0b100 := by decide

/-- STATUS, ADMIN_BASE, SUBMIT and EVENT_ACK, and a partial write (10.4, R160). -/
theorem test_host_writes :
    decodeHostWrite 0x08 4 0x08 = .submitErrorClear 0x08 ∧ decodeHostWrite 0x08 4 0x10 = .ackErrorClear 0x10 ∧
    decodeHostWrite 0x08 4 0x04 = .adminFaultClear 0x04 ∧ decodeHostWrite 0x0C 4 0x10002 = .adminBaseWrite 0x10002 ∧
    decodeHostWrite 0x10 4 0x20004 = .submit 0x20004 ∧ decodeHostWrite 0x14 4 0x80050001 = .clearNotice 0x80050001 ∧
    decodeHostWrite 0x14 4 0x00050001 = .eventAck 0x00050001 ∧
    decodeHostWrite 0x10 2 4 = .registerWriteIgnored 0x10 2 4 ∧
    decodeHostWrite 0x18 4 4 = .registerWriteIgnored 0x18 4 4 := by decide

/-- An admin entry's first bytes, the rest of its 64 being 0. -/
def entryBytes (bytes : List Byte) : List Byte := bytes ++ List.replicate (64 - bytes.length) 0

/-- SET_EVENT_QUEUE: queue at 4, mode at 5, size at 6, base at 8, threshold at 12, holdoff at 14 (10.2.2). -/
theorem test_decode_set_event_queue :
    decodeAdminEntry
      (entryBytes [0x02, 0, 0x34, 0x12, 3, 2, 0x00, 0x04, 0x40, 0, 0, 0x80, 9, 0, 0xE8, 0x03]) =
    .setEventQueue 0x1234
      { queue := 3, mode := 2, size := 1024, base := 0x80000040, threshold := 9, holdoff := 1000 } := by decide

/-- SET_REQUEST_QUEUE: lane at 4, completion queue at 5, size at 6, base at 8. -/
theorem test_decode_set_request_queue :
    decodeAdminEntry (entryBytes [0x03, 0, 1, 0, 2, 3, 16, 0, 0, 0x10, 0, 0]) =
    .setRequestQueue 1 { lane := 2, completionQueue := 3, size := 16, base := 0x1000 } := by decide

/-- LOAD_FILTER: the mask's eight bytes at 16, the value's at 24. -/
theorem test_decode_load_filter :
    decodeAdminEntry
      (entryBytes
        [0x06, 0, 7, 0, 63, 1, 0x0F, 15, 6, 3, 0xCD, 0xAB, 0, 0, 0, 0, 0x01, 0, 0, 0, 0, 0, 0, 0x80,
          0x02, 0, 0, 0, 0, 0, 0, 0x40]) =
    .loadFilter 7
      { entry := 63, valid := 1, lanes := 15, profile := 15, action := 6, target := 3, entryTag := 0xABCD,
        mask := 0x8000000000000001, value := 0x4000000000000002 } := by decide

/-- SET_LANE: its twenty fields at their offsets. -/
theorem test_decode_set_lane :
    decodeAdminEntry
      (entryBytes
        [0x07, 0, 9, 0, 1, 3, 0, 1, 20, 2, 0x2C, 0x01, 0x10, 0x27, 0x64, 0x00, 4, 5, 6, 7, 1, 0, 1, 2, 1, 2, 0x60,
          0xEA]) =
    .setLane 9
      { lane := 1, mode := 3, inputLevel := 0, outputLevel := 1, glitchWidth := 20, armedCount := 2,
        echoGuard := 300, deferLimit := 10000, settleSilence := 100, armed1 := 4, armed2 := 5, armed3 := 6,
        armed4 := 7, reportErrors := 1, capture := 0, defaultAction := 1, defaultEq := 2, guardMode := 1,
        gateCommand := 2, guardWindow := 60000 } := by decide

/-- The short commands. -/
theorem test_decode_short_commands :
    decodeAdminEntry (entryBytes [0x01, 0, 0xFF, 0xFF]) = .nop 0xFFFF ∧
    decodeAdminEntry (entryBytes [0x04, 0, 1, 0, 15, 0, 0, 0, 4, 0, 0, 0]) = .loadProfile 1 15 4 ∧
    decodeAdminEntry (entryBytes [0x05, 0, 1, 0, 16]) = .clearProfile 1 16 ∧
    decodeAdminEntry (entryBytes [0x08, 0, 1, 0, 2, 1]) = .abortLane 1 2 1 ∧
    decodeAdminEntry (entryBytes [0x09, 0, 1, 0, 3]) = .resetLane 1 3 ∧
    decodeAdminEntry (entryBytes [0x0A, 0, 1, 0, 3, 0, 0x05, 0x06]) = .release 1 3 0x0605 ∧
    decodeAdminEntry (entryBytes [0x0B, 0, 1, 0, 0, 0, 0, 0, 0, 1, 0, 0]) = .postCaptureBuffer 1 256 ∧
    decodeAdminEntry (entryBytes [0x0D, 0, 1, 0]) = .unknownCommand 13 1 := by decide

/-- READ_COUNTERS: the address at 12. -/
theorem test_decode_read_counters :
    decodeAdminEntry (entryBytes [0x0C, 0, 1, 0, 1, 2, 3, 4, 1, 0, 0, 0, 8, 0, 0, 0]) =
    .readCounters 1 { source := 1, lane := 2, firstEntry := 3, entryCount := 4, clear := 1, address := 8 } := by decide

/-- A request entry: the payload's byte `k / 8` at 8, reply mask at 40, reply value at 48 (10.2.1). -/
theorem test_decode_request_entry :
    decodeRequestEntry
      (entryBytes
        [4, 1, 0x34, 0x12, 2, 32, 3, 1, 0x80, 0, 0, 0, 0, 0, 0, 0, 0, 0, 0, 0, 0, 0, 0, 0x40, 0, 0x10, 0, 0, 5, 0, 0x10,
          0x27, 6, 0, 0x64, 0, 7, 0, 0, 0, 0xFF, 0, 0, 0, 0, 0, 0, 0, 0, 0, 0, 0, 0, 0, 0, 1]) =
    { kind := 4, flags := 1, tag := 0x1234, profile := 2, bitCount := 32, repeats := 3, repeatForm := 1,
      payload := 0x40000000000000000000000000000080, listAddress := 0x1000, pairCount := 5, holdLimit := 10000,
      attempts := 6, replyWindow := 100, replyProfile := 7, replyMask := 0xFF,
      replyValue := 0x0100000000000000 } := by decide

/-- A profile record: leader_mark at 4, end_silence at 20, learn_max at 38 (10.2.3). -/
theorem test_decode_profile_record :
    decodeProfileRecord
      (entryBytes
        [0, 0, 110, 206, 0x28, 0x23, 0x94, 0x11, 0x30, 0x02, 0x30, 0x02, 0x30, 0x02, 0x9A, 0x06, 0x30, 0x02, 32, 32,
          0x10, 0x27, 0x40, 0x9C, 0xD0, 0xA8, 0x28, 0x23, 0xCA, 0x08, 120, 0, 0, 25, 1, 0, 80, 0, 120, 0]) =
    { encoding := 0, biphasePolarity := 0, carrierHigh := 110, carrierLow := 206, leaderMark := 9000,
      leaderSpace := 4500, mark0 := 560, space0 := 560, mark1 := 560, space1 := 1690, trailerMark := 560,
      bitsMin := 32, bitsMax := 32, endSilence := 10000, minGap := 40000, framePeriod := 43216, repeatMark := 9000,
      repeatSpace := 2250, repeatWindow := 120, collapseIdentical := 0, tolerance := 25, learn := 1, learnMin := 80,
      learnMax := 120 } := by decide

/-- Two pairs of a list (10.2.4). -/
theorem test_decode_pairs :
    decodePairs [0x28, 0x23, 0x94, 0x11, 0x30, 0x02, 0, 0] 2 = [⟨9000, 4500⟩, ⟨560, 0⟩] := by decide

/-! ## Small states -/

/-- An admin queue of four entries whose entry 3 is being read. -/
def ring : AdminQueue := { base := 0x1000, size := 4, head := 3, tail := 0 }

/-- A transaction of the purpose given. -/
def transaction (p : Purpose) : Transaction := { purpose := p, address := 0, length := 64, data := [] }

/-- A running part with an admin entry read outstanding. -/
def reading : State :=
  { State.reset with
    engine := .running, clock := 100000, admin := { state := .fetch, queue := some ring }
    bus := { slots := (Vector.replicate 10 BusSlot.idle).set 0 (.outstanding (transaction .adminEntry)), pointer := 0 } }

/-- A running part at rest, its command unit idle. -/
def quiet : State :=
  { State.reset with
    engine := .running, clock := 100000, admin := { state := .idle, queue := some { ring with head := 0 } } }

/-- A lane at rest, receiving and sending. -/
def shared : LaneState :=
  { LaneState.reset with
    settings := { LaneSettings.reset with mode := .shared, echoGuard := 300 }
    filter := some { mark := false, firstEdge := 90000, handed := true, stuckReported := false, unblinded := none,
                     excursion := none }
    decoder := .hunt 0 }

/-- `s` with lane 1 as given. -/
def onLane (x : LaneState) (s : State) : State := s.setLane 1 x

/-- `s` with a client's transaction outstanding. -/
def outstanding (c : BusClient) (p : Purpose) (s : State) : State := s.setBus c (.outstanding (transaction p))

/-- A RUNNING request queue of four entries with one waiting. -/
def queue : RequestQueue :=
  { state := .running, base := 0x2000, size := 4, head := 3, tail := 0, completionQueue := 2 }

/-- A RUNNING event queue of 16 entries. -/
def events : EventQueue :=
  { state := .running, base := 0x4000, size := 16, tail := 15, phase := true, unread := 3, mode := .count,
    threshold := 4, holdoff := 100, flag := false, holdoffDue := none, fault := false }

/-- The record of a common remote control: PDIST, 32 bits, repeat code (01). -/
def record : ProfileRecord :=
  { encoding := 0, biphasePolarity := 0, carrierHigh := 110, carrierLow := 206, leaderMark := 9000,
    leaderSpace := 4500, mark0 := 560, space0 := 560, mark1 := 560, space1 := 1690, trailerMark := 560, bitsMin := 32,
    bitsMax := 32, endSilence := 10000, minGap := 40000, framePeriod := 0, repeatMark := 9000, repeatSpace := 2250,
    repeatWindow := 120, collapseIdentical := 0, tolerance := 25, learn := 0, learnMin := 0, learnMax := 0 }

/-- `s` with that profile in slot 2. -/
def loaded (s : State) : State := s.setSlot 2 (.valid (profileOf record))

/-- A SEND of 32 bits with the profile in slot 2. -/
def send : RequestEntry :=
  { kind := 1, flags := 0, tag := 9, profile := 2, bitCount := 32, repeats := 1, repeatForm := 1, payload := 5,
    listAddress := 0, pairCount := 0, holdLimit := 0, attempts := 0, replyWindow := 0, replyProfile := 0, replyMask := 0,
    replyValue := 0 }

/-- That request while it runs. -/
def active : ActiveRequest :=
  { entry := send, kind := .send, pairs := [], started := 1, firstStart := some 50000, lastStart := 50000,
    holdPeriod := 100000, endCause := none }

/-- A transmission of 1000 µs that began at 99000. -/
def onTheLine : Transmission :=
  { start := 99000, intervals := [⟨true, 1000⟩], carrierHigh := 110, carrierLow := 206, metHunt := none }

/-- A press of profile 2 that owes its END. -/
def press : Press :=
  { profile := 2, bitCount := 32, payload := 5, firstTime := 60000, lastTime := 90000, heldDuration := 30000,
    repeatCount := 65535, action := .each, target := 1, tag := 4, delivering := true, endOwed := true,
    windowDue := 100000 }

/-- A SEND's frame as it was heard. -/
def frame : GoodFrame := { profile := 2, bitCount := 32, payload := 5, start := 99000 }

/-- What a command leads to. -/
def after (c : Instr) (s : State) : State :=
  match exec c s with
  | .next t => t
  | .fault _ => s
  | .refused _ => s

/-- The result in the command unit's posting slot: status and detail. -/
def result (s : State) : Option (Code × Nat) :=
  match s.admin.state with
  | .posting done => some (done.status, done.detail.toNat)
  | _ => none

/-- The status and detail of a lane's completion. -/
def completed (s : State) : Option (Code × Nat) :=
  (s.lane 1).seq.completion.map fun c => (c.status, c.detail.toNat)

/-! ## Single steps -/

/-- R168: base 0x10000 with size code 2 enables 16 entries; IRQ_ENABLE is bit 2. -/
theorem test_enable :
    let s := after (.enable 5) { State.reset with adminBase := 0x10002 }
    s.engine = .running ∧ s.irqEnable = true ∧ s.admin.queue = some ⟨0x10000, 16, 0, 0⟩ := by decide

/-- R168: a base that is a multiple of 16 only, and size code 7, set ADMIN_FAULT. -/
theorem test_enable_refused :
    (after (.enable 1) { State.reset with adminBase := 0x10010 }).adminFault = true ∧
    (after (.enable 1) { State.reset with adminBase := 0x10007 }).engine = .off := by decide

/-- R169: a stop with a transaction outstanding is STOPPING, and the request not yet started is dropped. -/
theorem test_engine_stop :
    let s := after (.engineStop 0) (reading.setBus (.sequencer 2) (.pending (transaction .requestEntry)))
    s.engine = .stopping ∧ s.busSlot (.sequencer 2) = .idle ∧ s.admin.state = .stopped := by decide

/-- R170: the last end of STOPPING reaches OFF and clears ADMIN_FAULT. -/
theorem test_stopping_end :
    let s := after (.stoppingTransactionEnd .commandUnit true)
      { reading with engine := .stopping, adminFault := true, ackError := true }
    s.engine = .off ∧ s.adminFault = false ∧ s.ackError = true := by decide

/-- R171: an engine reset sets the registers and the profile store to their reset values. -/
theorem test_engine_reset :
    let s := after (.engineReset 2) (loaded { quiet with irqEnable := true, adminBase := 0x40 })
    s.engine = .off ∧ s.irqEnable = false ∧ s.adminBase = 0 ∧ s.slot 2 = .invalid := by decide

/-- R171: power-on reset is OFF at once, whatever was outstanding. -/
theorem test_power_on_reset : (after .powerOnReset reading).engine = .off := by decide

/-- R162, R163, R164: register writes that touch one bit or one register. -/
theorem test_register_writes :
    (after (.irqEnableWrite 4) State.reset).irqEnable = true ∧
    (after (.submitErrorClear 8) { quiet with submitError := true, ackError := true }).ackError = true ∧
    (after (.ackErrorClear 16) { quiet with ackError := true }).ackError = false ∧
    (after (.adminFaultClear 4) { quiet with adminFault := true }).adminFault = true ∧
    (after (.adminFaultClear 4) { State.reset with adminFault := true }).adminFault = false ∧
    (after (.adminBaseWrite 0x45) State.reset).adminBase = 0x45 ∧
    (after (.adminBaseWrite 0x45) quiet).adminBase = 0 ∧
    (after (.registerWriteIgnored 0 4 2) quiet).engine = .running := by decide

/-- R161, R179: IDENT and STATUS as they read. -/
theorem test_register_reads :
    quiet.register 0x00 = 0x040105A3 ∧
    ({ quiet with adminFault := true, ackError := true }).register 0x08 = 0x15 ∧
    quiet.readBytes 0x02 2 = [0x01, 0x04] := by decide

/-- R165: a tail that moves starts the read of the entry at the head; a tail at size is refused. -/
theorem test_submit :
    (after (.submit 0x00010004) quiet).admin.state = .fetch ∧
    (after (.submit 0x00040004) quiet).submitError = true ∧
    (after (.submit 0x00000001) (onLane { shared with queue := { queue with head := 1 } } quiet)).busSlot
      (.sequencer 1) =
      .pending { purpose := .requestEntry, address := 0x2040, length := 64, data := [] } := by decide

/-- R127, R130: acknowledging every entry up to the tail clears a COUNT flag and cancels the timer; one more is refused.
-/
theorem test_event_ack :
    let s := quiet.setEq 1 { events with unread := 4, flag := true }
    ((after (.eventAck 0x000F0001) s).eq 1).unread = 0 ∧ ((after (.eventAck 0x000F0001) s).eq 1).flag = false ∧
    (after (.eventAck 0x00000001) s).ackError = true := by decide

/-- R131: in LATCHED an acknowledgment alone leaves the flag, clear-notice clears it and starts the timer. -/
theorem test_clear_notice :
    let s := quiet.setEq 1 { events with mode := .latched, unread := 4, flag := true }
    ((after (.eventAck 0x000E0001) s).eq 1).flag = true ∧
    ((after (.clearNotice 0x800E0001) s).eq 1).flag = false ∧
    ((after (.clearNotice 0x800E0001) s).eq 1).holdoffDue = some 100100 := by decide

/-- R174: with the pointer at 3 the grant goes to client 3 before client 1. -/
theorem test_bus_grant :
    let s := after .busGrant
      { quiet with
        bus := { slots := ((Vector.replicate 10 .idle).set 1 (.pending (transaction .requestEntry))).set 3
                   (.pending (transaction .requestEntry)), pointer := 3 } }
    s.busSlot (.sequencer 2) = .outstanding (transaction .requestEntry) ∧
    s.busSlot (.sequencer 0) = .pending (transaction .requestEntry) ∧ s.bus.pointer = 4 := by decide

/-- R140: a failed admin read halts the command unit and leaves the head. -/
theorem test_admin_read_error :
    (after .adminReadError reading).admin = { state := .halted, queue := some ring } ∧
    (after .adminReadError reading).adminFault = true := by decide

/-- R140, R144: a taken NOP advances the head from 3 to 0 and posts OK. -/
theorem test_nop :
    result (after (.nop 7) reading) = some (.ok, 0) ∧
    (after (.nop 7) reading).admin.queue = some { ring with head := 0 } := by decide

/-- R141: an unknown command; R145: EQ0 is never deleted, and a size of 17 is field 5. -/
theorem test_admin_refusals :
    result (after (.unknownCommand 13 7) reading) = some (.unknownKind, 0) ∧
    result (after (.setEventQueue 7 ⟨0, 0, 0, 0, 0, 0⟩) reading) = some (.fieldRange, 5) ∧
    result (after (.setEventQueue 7 ⟨1, 0, 17, 64, 1, 0⟩) reading) = some (.fieldRange, 5) ∧
    result (after (.setRequestQueue 7 ⟨4, 0, 4, 0⟩) reading) = some (.fieldRange, 3) ∧
    result (after (.abortLane 7 3 2) reading) = some (.fieldRange, 4) ∧
    result (after (.postCaptureBuffer 7 2) reading) = some (.fieldRange, 3) := by decide

/-- R122: re-creating a RUNNING queue with unread entries is QUEUE_BUSY; a FAULTED one is created afresh. -/
theorem test_set_event_queue :
    result (after (.setEventQueue 7 ⟨1, 1, 16, 0x40, 1, 0⟩) (reading.setEq 1 events)) = some (.queueBusy, 0) ∧
    let s := after (.setEventQueue 7 ⟨1, 1, 16, 0x40, 1, 0⟩)
      (reading.setEq 1 { events with state := .faulted, fault := true })
    (s.eq 1).fault = false ∧ (s.eq 1).tail = 0 ∧ (s.eq 1).unread = 0 ∧ (s.eq 1).state = .running := by decide

/-- R102, R146: a RUNNING queue with a waiting entry is busy. -/
theorem test_set_request_queue :
    result (after (.setRequestQueue 7 ⟨1, 2, 8, 0x40⟩) (onLane { shared with queue := queue } reading)) =
      some (.queueBusy, 0) ∧
    ((after (.setRequestQueue 7 ⟨1, 2, 8, 0x40⟩) reading).lane 1).queue =
      { state := .running, base := 0x40, size := 8, head := 0, tail := 0, completionQueue := 2 } := by decide

/-- R16: a load makes the slot LOADING and reads 64 bytes; R2: an armed slot is in use. -/
theorem test_load_profile :
    let s := after (.loadProfile 7 2 0x40) reading
    s.slot 2 = .loading ∧
    s.busSlot .commandUnit = .pending { purpose := .profileRecord, address := 0x40, length := 64, data := [] } ∧
    result (after (.loadProfile 7 2 0x40)
      (onLane { shared with settings := { shared.settings with armed := [2] } } reading)) =
      some (.profileInUse, 0) := by decide

/-- A part whose command unit awaits the record of slot 2. -/
def loading : State :=
  { (outstanding .commandUnit .profileRecord quiet).setSlot 2 .loading with
    admin := { state := .executing 7 (.profileRead 2), queue := some ring } }

/-- R17, R4: the record is VALID; with tolerance 4 it fails on field 21, with end silence 5625 on field 14. -/
theorem test_profile_record :
    (after (.profileRecordReadEnd (some record)) loading).slot 2 = .valid (profileOf record) ∧
    result (after (.profileRecordReadEnd (some { record with tolerance := 4 })) loading) = some (.fieldRange, 21) ∧
    result (after (.profileRecordReadEnd (some { record with endSilence := 5625 })) loading) =
      some (.fieldRange, 14) ∧
    result (after (.profileRecordReadEnd none) loading) = some (.fetchError, 0) := by decide

/-- R21: clearing a slot that is not in use. -/
theorem test_clear_profile : (after (.clearProfile 7 2) (loaded reading)).slot 2 = .invalid := by decide

/-- R148: the entry is replaced whole and its hit count is 0. -/
theorem test_load_filter :
    let s := after (.loadFilter 7 ⟨5, 0, 0, 0, 0, 0, 0, 0, 0⟩)
      (reading.setEntry 5 { filter := some ⟨15, 2, 0, 0, .press, 0, 0⟩, hits := 9 })
    s.entry 5 = { filter := none, hits := 0 } ∧ result s = some (.ok, 0) := by decide

/-- SET_LANE fields with profile 2 armed once, SHARED. -/
def laneArgs : LaneArgs :=
  { lane := 1, mode := 3, inputLevel := 1, outputLevel := 1, glitchWidth := 20, armedCount := 1, echoGuard := 300,
    deferLimit := 0, settleSilence := 100, armed1 := 2, armed2 := 0, armed3 := 0, armed4 := 0, reportErrors := 0,
    capture := 0, defaultAction := 0, defaultEq := 1, guardMode := 0, gateCommand := 0, guardWindow := 1000 }

/-- R149, R150: a slot that is not VALID, a slot named twice, a busy lane, and a SET_LANE that is applied. -/
theorem test_set_lane :
    result (after (.setLane 7 laneArgs) reading) = some (.profileInvalid, 12) ∧
    result (after (.setLane 7 { laneArgs with armedCount := 2, armed2 := 2 }) (loaded reading)) =
      some (.fieldRange, 13) ∧
    result (after (.setLane 7 laneArgs) (loaded (onLane { shared with seq := { Sequencer.reset with state := .fetch } }
      reading))) = some (.laneBusy, 0) ∧
    ((after (.setLane 7 laneArgs) (loaded reading)).lane 1).decoder = .hunt 100000 := by decide

/-- R152, R29, R32, R109 (4): a request on the line is cut, completes ABORTED without its end cause and starts the echo
guard; the command waits. -/
theorem test_abort_lane :
    let s := after (.abortLane 7 1 0)
      (loaded (onLane { shared with seq := { Sequencer.reset with
                                      state := .ending, active := some { active with endCause := some .released } },
                                    tx := some onTheLine } reading))
    completed s = some (.aborted, 0) ∧ (s.lane 1).tx = none ∧ (s.lane 1).echoDue = some 100300 ∧
    (s.lane 1).seq.lineFree = some 140000 ∧ result s = none ∧
    (s.lane 1).seq.active.map ActiveRequest.endCause = some none := by decide

/-- R154: a lane with nothing to flush is reset at once. -/
theorem test_reset_lane :
    let s := after (.resetLane 7 1) (onLane { shared with press := some press } reading)
    result s = some (.ok, 0) ∧ (s.lane 1).settings.mode = .disabled ∧ (s.lane 1).press = none := by decide

/-- A HOLD of lane 1 in the state given. -/
def holdingIn (state : SeqState) : LaneState :=
  { shared with
    seq := { Sequencer.reset with
      state := state, active := some { active with kind := .hold, entry := { send with kind := 3, holdLimit := 50 } },
      limitDue := some 100000, spacingDue := some 100000 } }

/-- R107: in HOLDING the hold ends at once with end cause RELEASED, in SENDING it enters ENDING; another tag is
NOT_HOLDING. -/
theorem test_release :
    (let s := after (.release 7 1 9) (onLane (holdingIn .holding) reading);
      completed s = some (.released, 0) ∧ (s.lane 1).seq.active.map ActiveRequest.endCause = some (some .released)) ∧
    ((after (.release 7 1 9) (onLane (holdingIn .sending) reading)).lane 1).seq.state = .ending ∧
    result (after (.release 7 1 8) (onLane (holdingIn .holding) reading)) = some (.notHolding, 0) := by decide

/-- R157: the sixteenth buffer is taken, a seventeenth refused. -/
theorem test_post_capture_buffer :
    (after (.postCaptureBuffer 7 0x100) { reading with heldCount := 15 }).captureList = [0x100] ∧
    result (after (.postCaptureBuffer 7 0x100) { reading with heldCount := 16 }) = some (.listFull, 0) := by decide

/-- R158: a lane block is the eight counters, four bytes each. -/
theorem test_read_counters :
    ((after (.readCounters 7 ⟨0, 1, 0, 0, 1, 0x80⟩) reading).busSlot .commandUnit) =
      .pending { purpose := .counterBlock, address := 0x80, length := 32, data := List.replicate 32 0 } := by decide

/-- A part whose command unit awaits the write of lane 1's counters. -/
def counting : State :=
  { outstanding .commandUnit .counterBlock quiet with
    admin := { state := .executing 7 (.counterWrite (.lane 1) true), queue := some ring } }

/-- R159: the clear, and no clear after a bus error. -/
theorem test_counter_block_write :
    let s := onLane { shared with counters := Vector.replicate 8 3 } counting
    ((after (.counterBlockWriteEnd false) s).lane 1).counter .noise = 0 ∧
    ((after (.counterBlockWriteEnd true) s).lane 1).counter .noise = 3 := by decide

/-- Lane 1 with profile 2 armed and the decoder given, its running interval a mark or a space from 90000. -/
def hearing (mark : Bool) (d : Decoder) : State :=
  loaded (onLane
    { shared with
      settings := { shared.settings with armed := [2], reportErrors := true }, decoder := d, pinHigh := mark
      filter := some { mark := mark, firstEdge := 90000, handed := true, stuckReported := false, unblinded := none,
                       excursion := none } } quiet)

/-- R25, R40: with glitch_width 0 an edge is confirmed at once, and a new mark in HUNT is a leader. -/
theorem test_pin_edge :
    ((after (.pinEdge 1 true) (hearing false (.hunt 0))).lane 1).decoder = .leader 100000 ∧
    ((after (.pinEdge 1 true) (hearing true (.hunt 0))).lane 1).decoder = .hunt 0 := by decide

/-- R25: an excursion of 20 µs is confirmed with its own edge as the first edge of the new interval. -/
theorem test_transition_confirm :
    let s := hearing false (.hunt 0)
    let x := s.lane 1
    let s := onLane
      { x with settings := { x.settings with glitchWidth := 20 },
               filter := x.filter.map fun f => { f with excursion := some 99980 } } s
    ((after (.transitionConfirm 1) s).lane 1).decoder = .leader 99980 := by decide

/-- R41, R42: a mark of 9000 is a leader of profile 2; the space of 4500 after it begins a frame. -/
theorem test_leader_and_space :
    ((takeTransition 1 false 99000 (some 9000) (hearing true (.leader 90000))).lane 1).decoder =
      .spaceCheck 90000 9000 [⟨2, some 256, some 256⟩] ∧
    ((takeTransition 1 true 99000 (some 4500)
      (hearing false (.spaceCheck 81000 9000 [⟨2, some 256, some 256⟩]))).lane 1).decoder =
      .symbols 81000 2 256 ⟨0, 0, false, false, none⟩ := by decide

/-- R45: 560 and 1690 after a bit mark are a 1; 560 and 5000 are BROKEN, counted and reported. -/
theorem test_symbols :
    let s := hearing false (.symbols 81000 2 256 ⟨3, 1, true, true, none⟩)
    ((takeTransition 1 true 99000 (some 1690) s).lane 1).decoder = .symbols 81000 2 256 ⟨4, 9, true, true, none⟩ ∧
    ((takeTransition 1 true 99000 (some 5000) s).lane 1).counter .framesBad = 1 ∧
    ((takeTransition 1 true 99000 (some 5000) s).lane 1).decoder = .drain (.profile 10000) := by decide

/-- R49, R50: at end silence 32 bits are a good frame, 31 are SHORT. -/
theorem test_threshold_crossing :
    ((after (.thresholdCrossing 1)
      (hearing false (.symbols 81000 2 256 ⟨32, 5, true, true, none⟩))).lane 1).counter .framesGood = 1 ∧
    ((after (.thresholdCrossing 1)
      (hearing false (.symbols 81000 2 256 ⟨31, 5, true, true, none⟩))).lane 1).outbox.events.map
        (fun ev => (ev.status, ev.bitCount)) = [(.short, 31)] := by decide

/-- R58: the CAPTURE event carries the pair count, the buffer and the burst's start. -/
theorem test_capture_write_end :
    let s := outstanding (.captureWriter 1) (.captureBuffer false)
      (onLane { shared with capture := some ⟨0x100, 70000, .ok, [⟨5, 6⟩]⟩ } quiet)
    ((after (.captureWriteEnd 1 true) s).lane 1).outbox.events.map
      (fun ev => (ev.status, ev.bitCount, ev.aux.toNat, ev.timestamp.toNat)) =
      [(.writeError, 1, 0x100, 70000)] := by decide

/-- R71, R72: the window that ends at 100000 closes the press with its END. -/
theorem test_repeat_window_expiry :
    let s := onLane { shared with press := some press } quiet
    ((after (.repeatWindowExpiry 1) s).lane 1).press = none ∧
    ((after (.repeatWindowExpiry 1) s).lane 1).outbox.events.map (fun ev => (ev.phase, ev.aux.toNat)) =
      [(.end_, 30000)] ∧
    (after (.repeatWindowExpiry 1) { s with clock := 99999 }) = { s with clock := 99999 } := by decide

/-- R80: the gate closes at the end of its window. -/
theorem test_gate_window_expiry :
    let s := onLane { shared with gateOpen := true, gateDue := some 100000 } quiet
    ((after (.gateWindowExpiry 1) s).lane 1).gateOpen = false := by decide

/-- R32: the echo guard's end withdraws the blind condition, and the interval in progress is not handed. -/
theorem test_echo_guard_expiry :
    let s := onLane { shared with blind := true, decoder := .blind, echoDue := some 100000 } quiet
    let x := (after (.echoGuardExpiry 1) s).lane 1
    x.blind = false ∧ x.decoder = .hunt 100000 ∧ x.filter.map InputFilter.handed = some false := by decide

/-- A blind lane whose echo guard ends now, with a mark that began at the moment given. -/
def unblinding (since : Moment) : LaneState :=
  { shared with
    blind := true, decoder := .blind, echoDue := some 100000
    filter := some { mark := true, firstEdge := since, handed := false, stuckReported := false, unblinded := none,
                     excursion := none } }

/-- R55: a mark of 65535 µs at the withdrawal is reported at once, one of 65534 µs is watched in HUNT. -/
theorem test_stuck_after_blinding :
    let stuck := (after (.echoGuardExpiry 1) (onLane (unblinding 34465) quiet)).lane 1
    let watched := (after (.echoGuardExpiry 1) (onLane (unblinding 34466) quiet)).lane 1
    stuck.decoder = .drain .stuck ∧ stuck.outbox.events.map (fun ev => (ev.status, ev.timestamp)) = [(.lineStuck, 34465)] ∧
    watched.decoder = .hunt 100000 ∧ watched.outbox.events = [] := by decide

/-- Lane 1 with an excursion pending, glitch_width 20, when its blind condition ends under a mark begun at 34460, whose
stuck-mark limit is reached at 99995. -/
def unblindingUnder (e : Moment) : LaneState :=
  { unblinding 34460 with
    settings := { (unblinding 34460).settings with glitchWidth := 20 }
    filter := (unblinding 34460).filter.map fun f => { f with excursion := some e } }

/-- R55, R27: an excursion begun at the limit does not hold the report back, one begun before it does; dropped, that one
releases the report. -/
theorem test_stuck_under_excursion :
    let events (t : State) := (t.lane 1).outbox.events.map (fun ev => (ev.status, ev.timestamp))
    let stuck := after (.echoGuardExpiry 1) (onLane (unblindingUnder 99995) quiet)
    let held := after (.echoGuardExpiry 1) (onLane (unblindingUnder 99994) quiet)
    events stuck = [(.lineStuck, 34460)] ∧ (stuck.lane 1).decoder = .drain .stuck ∧
    events held = [] ∧ (held.lane 1).decoder = .hunt 100000 ∧
    events (after (.pinEdge 1 true) held) = [(.lineStuck, 34460)] := by decide

/-- A part that reads lane 1's request entry. -/
def fetching : State :=
  outstanding (.sequencer 1) .requestEntry
    (onLane { shared with queue := queue, seq := { Sequencer.reset with state := .fetch } } quiet)

/-- R85, R88: the head wraps from 3 to 0; kind 5 is unknown, repeats 16 is field 6. -/
theorem test_request_entry_read_end :
    ((after (.requestEntryReadEnd 1 send) fetching).lane 1).queue.head = 0 ∧
    ((after (.requestEntryReadEnd 1 send) fetching).lane 1).seq.taken = some send ∧
    completed (after (.requestEntryReadEnd 1 { send with kind := 5 }) fetching) = some (.unknownKind, 0) ∧
    completed (after (.requestEntryReadEnd 1 { send with repeats := 16 }) fetching) = some (.fieldRange, 6) := by
  decide

/-- R86: a failed read faults the queue and leaves the head. -/
theorem test_request_read_error :
    let s := after (.requestReadError 1) fetching
    completed s = some (.queueFault, 0) ∧ (s.lane 1).queue.state = .faulted ∧ (s.lane 1).queue.head = 3 := by decide

/-- Lane 1 with an entry waiting for its activation. -/
def taking (e : RequestEntry) : State :=
  loaded (onLane { shared with seq := { Sequencer.reset with state := .fetch, taken := some e } } quiet)

/-- R89: an empty slot is PROFILE_INVALID, 31 bits of a 32-bit profile are field 5, and 32 bits wait in GAP. -/
theorem test_activation :
    completed (after (.activation 1) (taking { send with profile := 3 })) = some (.profileInvalid, 0) ∧
    completed (after (.activation 1) (taking { send with bitCount := 31 })) = some (.fieldRange, 5) ∧
    ((after (.activation 1) (taking send)).lane 1).seq.state = .gap := by decide

/-- A RAW request of two pairs whose list is being read. -/
def listing : State :=
  outstanding (.sequencer 1) (.pairList false)
    (onLane
      { shared with
        seq := { Sequencer.reset with
          state := .listFetch
          active := some { active with kind := .raw, started := 0,
                                       entry := { send with kind := 2, profile := 255, pairCount := 2 } } } } quiet)

/-- R94, R95: a last space of 0 is allowed, a first one is not; a bus error is FETCH_ERROR. -/
theorem test_pair_list_read_end :
    ((after (.pairListReadEnd 1 (some [⟨9, 8⟩, ⟨7, 0⟩])) listing).lane 1).seq.state = .gap ∧
    completed (after (.pairListReadEnd 1 (some [⟨9, 0⟩, ⟨7, 6⟩])) listing) = some (.fieldRange, 9) ∧
    completed (after (.pairListReadEnd 1 none) listing) = some (.fetchError, 0) := by decide

/-- Lane 1 with its request in the state given, every timer due now. -/
def requesting (r : ActiveRequest) (state : SeqState) (x : LaneState) : State :=
  loaded (onLane
    { x with seq := { Sequencer.reset with state := state, active := some r, spacingDue := some 100000,
                                           deferDue := some 100000, limitDue := some 100000,
                                           replyDue := some 100000 } } quiet)

/-- R91, R96: the first transmission is the frame, 67 intervals of 13500 + 32 × 560 + 30 × 560 + 2 × 1690 + 560 µs for
payload 5; a busy line defers it. -/
theorem test_spacing_timer_expiry :
    let s := requesting { active with started := 0, firstStart := none } .gap shared
    ((after (.spacingTimerExpiry 1) s).lane 1).tx.map (fun t => (t.intervals.length, duration t.intervals)) =
      some (67, 52160) ∧
    ((after (.spacingTimerExpiry 1) (onLane { s.lane 1 with decoder := .leader 5 } s)).lane 1).seq.state = .defer := by
  decide

/-- R9, R95: a repeat code is its mark, its space and a closing trailer; the last space of a RAW list is not driven. -/
theorem test_line_forms :
    repeatForm (profileOf record) = [⟨true, 9000⟩, ⟨false, 2250⟩, ⟨true, 560⟩] ∧
    rawForm [⟨9, 8⟩, ⟨7, 6⟩] = [⟨true, 9⟩, ⟨false, 8⟩, ⟨true, 7⟩] := by decide

/-- Lane 1 with glitch_width 20 and an excursion, if any, that began at the moment given. -/
def excursion (e : Option Moment) : LaneState :=
  { shared with
    settings := { shared.settings with glitchWidth := 20 }
    filter := some { mark := false, firstEdge := 90000, handed := true, stuckReported := false, unblinded := none,
                     excursion := e } }

/-- R34: a first start and the confirmation, at the same moment, of a mark begun 20 µs before it. Taken first the start
sends, and the mark counts one collision and no more; taken first the mark makes the request wait. -/
theorem test_start_meets_departure :
    let s := requesting { active with started := 0, firstStart := none } .gap (excursion (some 99980))
    let started := after (.spacingTimerExpiry 1) s
    let marked := after (.transitionConfirm 1) started
    let first := after (.spacingTimerExpiry 1) (after (.transitionConfirm 1) s)
    (started.lane 1).counter .collisions = 0 ∧ (marked.lane 1).counter .collisions = 1 ∧
    (marked.lane 1).seq.state = .sending ∧
    ((after (.transitionConfirm 1) (onLane { marked.lane 1 with filter := (started.lane 1).filter } marked)).lane
      1).counter .collisions = 1 ∧
    (first.lane 1).seq.state = .defer ∧ (first.lane 1).counter .collisions = 0 := by decide

/-- R26, R35: on a directly wired SHARED lane the transmission's own mark rises at its start and counts nothing. -/
theorem test_start_hears_itself :
    let s := requesting { active with started := 0, firstStart := none } .gap shared
    let heard := after (.pinEdge 1 true) (after (.spacingTimerExpiry 1) s)
    (heard.lane 1).seq.state = .sending ∧ (heard.lane 1).decoder = .blind ∧
    (heard.lane 1).counter .collisions = 0 := by decide

/-- R92: the second of two transmissions is the last. -/
theorem test_transmission_end :
    let s := requesting active .sending { shared with tx := some onTheLine }
    ((after (.transmissionEnd 1) s).lane 1).seq.state = .gap ∧
    completed (after (.transmissionEnd 1)
      (requesting { active with started := 2 } .sending { shared with tx := some onTheLine })) = some (.ok, 0) := by
  decide

/-- R97: POLITE is LINE_BUSY; otherwise the transmission starts and counts one collision. -/
theorem test_defer_timer_expiry :
    let r := { active with started := 0, firstStart := none }
    let busy := { shared with decoder := .leader 5 }
    completed (after (.deferTimerExpiry 1) (requesting { r with entry := { send with flags := 1 } } .defer busy)) =
      some (.lineBusy, 0) ∧
    ((after (.deferTimerExpiry 1) (requesting r .defer busy)).lane 1).counter .collisions = 1 := by decide

/-- R105: in SENDING the hold limit leads to ENDING, in HOLDING to the completion with end cause HOLD_LIMIT. -/
theorem test_hold_limit_expiry :
    ((after (.holdLimitExpiry 1) (onLane (holdingIn .sending) quiet)).lane 1).seq.state = .ending ∧
    (let s := after (.holdLimitExpiry 1) (onLane (holdingIn .holding) quiet);
      completed s = some (.holdLimit, 0) ∧ (s.lane 1).seq.active.map ActiveRequest.endCause = some (some .holdLimit)) := by
  decide

/-- An EXCHANGE in LISTEN after `started` attempts of 3. -/
def listening (started : Half) : State :=
  requesting
    { active with kind := .exchange, started := started,
                  entry := { send with kind := 4, repeats := 0, attempts := 3, replyWindow := 50, replyProfile := 2,
                                       replyMask := 7, replyValue := 5 } } .listen shared

/-- R115: attempts remain after the second, none after the third. -/
theorem test_reply_window_expiry :
    ((after (.replyWindowExpiry 1) (listening 2)).lane 1).seq.state = .gap ∧
    completed (after (.replyWindowExpiry 1) (listening 3)) = some (.noReply, 0) := by decide

/-- R114: payload 5 passes mask 7 and value 5; payload 4 goes to the press tracker. -/
theorem test_exchange_reply :
    completed (takeGoodFrame 1 frame (listening 2)) = some (.ok, 0) ∧
    completed (takeGoodFrame 1 { frame with payload := 4 } (listening 2)) = none := by decide

/-- A part whose event writer writes lane 1's oldest event into EQ1. -/
def writing : State :=
  { outstanding .eventWriter .event
      ((onLane { shared with outbox := { Outbox.reset with
          events := [frameEvent frame .single false 1 0 7, frameEvent frame .end_ false 1 0 8] } } quiet).setEq 1 events)
    with writer := { pointer := 0, inFlight := some (.outbox 1, 1) } }

/-- R125: tail 15 of 16 wraps to 0 and inverts the phase; unread 4 reaches the threshold; the next event follows. -/
theorem test_event_write_end :
    let s := after .eventWriteEnd writing
    (s.eq 1).tail = 0 ∧ (s.eq 1).phase = false ∧ (s.eq 1).unread = 4 ∧ (s.eq 1).flag = true ∧
    (s.lane 1).outbox.events.length = 1 ∧ s.writer.pointer = 7 ∧ s.writer.inFlight = some (.outbox 1, 1) := by decide

/-- R135: a bus error faults the queue, and the event stays. -/
theorem test_event_write_error :
    let s := after .eventWriteError writing
    (s.eq 1).state = .faulted ∧ (s.eq 1).fault = true ∧ (s.eq 1).tail = 15 ∧ (s.lane 1).outbox.events.length = 2 := by
  decide

/-- R129 (3): the timer's end sets the flag while an entry is unread. -/
theorem test_holdoff_expiry :
    ((after (.holdoffExpiry 1) (quiet.setEq 1 { events with holdoffDue := some 100000 })).eq 1).flag = true ∧
    ((after (.holdoffExpiry 1) (quiet.setEq 1 { events with holdoffDue := some 100000, unread := 0 })).eq 1).flag =
      false := by decide

/-- R30: with nothing due, a step on an empty queue is one microsecond. -/
theorem test_idle_step : step quiet = .next { quiet with clock := 100001 } := by rfl

/-- The command at the front of the queue runs. -/
theorem test_queued_step :
    step { State.reset with pending := [.adminBaseWrite 0x40, .busGrant] } =
      .next { State.reset with adminBase := 0x40, pending := [.busGrant] } := by rfl

/-! ## States and operands that meet the statements' hypotheses

One theorem for each statement with hypotheses, its parts in the order of the statement's clauses. -/

theorem reading_entryRead : EntryRead reading ring := ⟨rfl, rfl, _, rfl, rfl⟩

theorem quiet_bus : (∀ l : Lane, quiet.busSlot (.sequencer l) = .idle ∧ quiet.busSlot (.captureWriter l) = .idle) ∧
    quiet.busSlot .commandUnit = .idle ∧ quiet.busSlot .eventWriter = .idle := by decide

theorem quiet_nothing_outstanding : ¬ SomeOutstanding quiet := by
  rintro ⟨c, t, h⟩
  have := quiet_bus
  cases c with
  | commandUnit => rw [this.2.1] at h; cases h
  | sequencer l => rw [(this.1 l).1] at h; cases h
  | captureWriter l => rw [(this.1 l).2] at h; cases h
  | eventWriter => rw [this.2.2] at h; cases h

theorem reading_outstanding : SomeOutstanding reading := ⟨.commandUnit, _, rfl⟩

theorem witness_StepRunsFrontCommand :
    ({ State.reset with pending := [.nop 1, .busGrant] }).pending = .nop 1 :: [.busGrant] := rfl

/-- Nothing due; a timer, a held excursion and a threshold crossing due at this very moment. -/
theorem witness_IdleStepIsTime :
    quiet.pending = [] ∧ quiet.dueHappening = none ∧
    (onLane { shared with gateOpen := true, gateDue := some 100000 } quiet).dueHappening =
      some (.gateWindowExpiry 1) ∧
    (onLane (excursion (some 99980)) quiet).dueHappening = some (.transitionConfirm 1) ∧
    (hearing false (.drain (.profile 10000))).dueHappening = some (.thresholdCrossing 1) ∧
    (hearing false (.drain (.profile 10001))).dueHappening = none ∧
    (onLane (excursion (some 99981)) quiet).dueHappening = none := by decide

theorem witness_EngineResetSetsEveryBlock :
    (2 : Word).getLsbD 1 = true ∧ SomeOutstanding reading ∧ ¬ SomeOutstanding quiet :=
  ⟨rfl, reading_outstanding, quiet_nothing_outstanding⟩

/-- Size codes 6 and 7, and bases that are and are not multiples of 64. -/
theorem witness_EnableEntersRunningOrFaults :
    (1 : Word).getLsbD 0 = true ∧ (1 : Word).getLsbD 1 = false ∧ State.reset.engine = .off ∧
    ((0x46 : Word).toNat / 16 % 4 = 0 ∧ (0x46 : Word).toNat % 16 ≤ 6) ∧
    ¬ ((0x47 : Word).toNat / 16 % 4 = 0 ∧ (0x47 : Word).toNat % 16 ≤ 6) ∧
    ¬ ((0x36 : Word).toNat / 16 % 4 = 0 ∧ (0x36 : Word).toNat % 16 ≤ 6) := by decide

theorem witness_EngineStopDiscardsWork :
    (0 : Word).getLsbD 0 = false ∧ (0 : Word).getLsbD 1 = false ∧ quiet.engine = .running ∧
    reading.engine = .running ∧ SomeOutstanding reading ∧ ¬ SomeOutstanding quiet :=
  ⟨rfl, rfl, rfl, rfl, reading_outstanding, quiet_nothing_outstanding⟩

theorem witness_ControlStatusAndAdminBaseWrites :
    (5 : Word).getLsbD 1 = false ∧ ({ quiet with engine := .stopping }).engine = .stopping ∧
    (State.reset.engine = .off ∧ (4 : Word).getLsbD 0 = false) ∧
    (quiet.engine = .running ∧ (5 : Word).getLsbD 0 = true) ∧ quiet.engine ≠ .off := by decide

/-- Queue ids 1, 3, 4 and 5; tails of size and one below, with and without a read to begin, its place free and held by a
discarded pair list read. -/
theorem witness_SubmitNoticeJudged :
    5 ≤ (0x00000005 : Word).toNat % 8 ∧ (0x00000003 : Word).toNat % 8 = (3 : Lane).val ∧
    (quiet.lane 3).queue.state = .absent ∧
    (let s := onLane { shared with queue := { queue with head := 1 } } quiet;
      (0x00040001 : Word).toNat % 8 = (1 : Lane).val ∧
      (s.lane 1).queue.size ≤ (0x00040001 : Word).toNat / 65536 % 256 ∧
      ((s.lane 1).queue.state ≠ .absent ∧ (0x00030001 : Word).toNat / 65536 % 256 < (s.lane 1).queue.size) ∧
      ((s.lane 1).seq.state = .idle ∧ (s.lane 1).queue.state = .running ∧ (s.lane 1).queue.head ≠ 3 ∧
        (s.lane 1).settings.mode ≠ .disabled) ∧
      s.busSlot (.sequencer 1) = .idle ∧ (s.lane 1).queue.head = (0x00010001 : Word).toNat / 65536 % 256 ∧
      (let waits := outstanding (.sequencer 1) (.pairList true) s;
        waits.lane 1 = s.lane 1 ∧ asked (.sequencer 1) (entryAtHead (s.lane 1).queue) waits = waits)) ∧
    (0x00030004 : Word).toNat % 8 = 4 ∧ State.reset.admin.queue = none ∧
    quiet.admin.queue = some { ring with head := 0 } ∧ ({ ring with head := 0 } : AdminQueue).size ≤ 4 ∧
    3 < ({ ring with head := 0 } : AdminQueue).size ∧ (quiet.admin.state = .idle ∧ 0 ≠ 3) ∧
    quiet.busSlot .commandUnit = .idle ∧ reading.admin.state ≠ .idle := by decide

/-- Queue ids 3 and 4; acknowledging all 3 entries, a new head of size, and one entry too many. -/
theorem witness_EventAckJudged :
    (let s := quiet.setEq 3 events;
      4 ≤ (0x00000004 : Word).toNat % 8 ∧ (0x000F0003 : Word).toNat % 8 = (3 : EqId).val ∧
      (quiet.eq 3).state = .absent ∧ (s.eq 3).state ≠ .absent ∧
      (15 < (s.eq 3).size ∧ (15 + 16 + 3 - 15) % 16 ≤ (s.eq 3).unread) ∧ ¬ 16 < (s.eq 3).size ∧
      ¬ (0 + 16 + 3 - 15) % 16 ≤ (s.eq 3).unread) ∧
    ((quiet.setEq 3 events).eq 3).kept := ⟨by decide, by decide, by decide⟩

/-- A partial write, a misaligned one, IDENT, and the two ends of the window. -/
theorem witness_HostWritesReachRegisters :
    (1 ≤ 1 ∧ 1 ≤ 4 ∧ 1 ≠ 4) ∧ (1 ≤ 4 ∧ 4 ≤ 4) ∧ 0x05 % 4 ≠ 0 ∧ 0x00 = 0 ∧ 0x18 ≤ 0x18 ∧ 0x14 = 0x14 := by decide

/-- The first and last registers, the first byte beyond the window, and two and three bytes at its end. -/
theorem witness_RegisterReadLayout :
    (0x18 % 4 = 0 ∧ 0x18 ≤ 0x18) ∧ 0x1C ≤ 0x1C ∧ 0x19 % 4 ≠ 0 ∧ (1 < 2 ∧ 2 ≤ 3 ∧ 0x1A + 2 ≤ 0x1C) ∧
    (2 < 3 ∧ 3 ≤ 3 ∧ 0x19 + 3 ≤ 0x1C) := by decide

theorem witness_InterruptFollowsItsSources :
    (2 : Word).getLsbD 1 = true ∧ exec .powerOnReset quiet = .next (after .powerOnReset quiet) ∧
    exec (.engineReset 2) quiet = .next (after (.engineReset 2) quiet) ∧ (stopEngine reading).engine ≠ .off :=
  ⟨rfl, rfl, rfl, by decide⟩

/-- A grant at the pointer's own place and at the place just before it; no request; the last and not the last end. -/
theorem witness_BusPortStartsAndEnds :
    (let slots := (Vector.replicate 10 BusSlot.idle).set 2 (.pending (transaction .requestEntry));
      let near : State := { quiet with bus := { slots := slots, pointer := 2 } };
      let far : State := { quiet with bus := { slots := slots, pointer := 3 } };
      near.engine = .running ∧ near.bus.slots[(2 : Fin 10).val] = .pending (transaction .requestEntry) ∧
      (∀ j : Fin 10, ¬ (j - near.bus.pointer).val < (2 - near.bus.pointer).val) ∧
      (∀ j : Fin 10, (j - far.bus.pointer).val < (2 - far.bus.pointer).val → far.bus.slots[j.val] = .idle)) ∧
    (State.reset.engine ≠ .running ∧ quiet.engine = .running ∧ ∀ j : Fin 10, quiet.bus.slots[j.val] = .idle) ∧
    (let one : State := { reading with engine := .stopping };
      one.engine = .stopping ∧ one.busSlot .commandUnit = .outstanding (transaction .adminEntry) ∧
      ∀ l : Lane, one.busSlot (.sequencer l) = .idle ∧ one.busSlot (.captureWriter l) = .idle) ∧
    (outstanding .eventWriter .event { reading with engine := .stopping }).busSlot .eventWriter =
      .outstanding (transaction .event) := by decide

theorem witness_NopAnswersOk : EntryRead reading ring := reading_entryRead

/-- The first and last codes that name no command, and for each command a first field out of range. -/
theorem witness_AdminEntryReadEnds :
    EntryRead reading ring ∧
    ((0 : Byte).toNat = 0 ∧ 13 ≤ (13 : Byte).toNat) ∧
    firstBad (eventQueueChecks ⟨0, 0, 0, 0, 0, 0⟩) = some 5 ∧ firstBad (requestQueueChecks ⟨4, 0, 4, 0⟩) = some 3 ∧
    firstBad (loadProfileChecks 16 0) = some 3 ∧ firstBad (clearProfileChecks 16) = some 3 ∧
    firstBad (filterChecks ⟨63, 1, 0, 15, 7, 0, 0, 0, 0⟩) = some 9 ∧
    firstBad (laneChecks { laneArgs with gateCommand := 3 }) = some 22 ∧ firstBad (abortChecks 3 2) = some 4 ∧
    firstBad (laneOnlyChecks 4) = some 3 ∧ firstBad (captureBufferChecks 3) = some 3 ∧
    firstBad (counterChecks ⟨1, 0, 63, 2, 0, 0⟩) = some 6 :=
  ⟨reading_entryRead, by decide⟩

/-- Each side of the ranges: the last values inside and the first outside. -/
theorem witness_FieldRanges :
    firstBad (eventQueueChecks ⟨3, 2, 1024, 64, 1, 0⟩) = none ∧ firstBad (eventQueueChecks ⟨1, 0, 0, 1, 0, 0⟩) = none ∧
    firstBad (requestQueueChecks ⟨3, 3, 256, 64⟩) = none ∧ firstBad (loadProfileChecks 15 4) = none ∧
    firstBad (filterChecks ⟨63, 1, 0, 15, 6, 3, 0, 0, 0⟩) = none ∧ firstBad (laneChecks laneArgs) = none ∧
    firstBad (abortChecks 3 1) = none ∧ firstBad (laneOnlyChecks 3) = none ∧
    firstBad (counterChecks ⟨1, 0, 63, 1, 1, 4⟩) = none ∧ firstBad (counterChecks ⟨0, 3, 0, 0, 0, 0⟩) = none ∧
    firstBad (requestChecks .send { send with repeats := 15, bitCount := 128 }) = none ∧
    firstBad (requestChecks .raw { send with profile := 255, pairCount := 128 }) = none ∧
    firstBad (requestChecks .hold { send with holdLimit := 60000 }) = none ∧
    firstBad (requestChecks .exchange { send with repeats := 0, attempts := 8, replyWindow := 5000 }) = none := by
  decide

/-- A queue that is ABSENT, one FAULTED, one RUNNING and read out, and one with an entry unread. -/
theorem witness_SetEventQueueClaimsQueue :
    EntryRead reading ring ∧
    ((3 : Byte).toNat = (3 : EqId).val ∧ (2 : Byte).toNat = 2 ∧
      (16 : Half).toNat ∈ [16, 32, 64, 128, 256, 512, 1024] ∧ (64 : Word).toNat % 64 = 0 ∧ 1 ≤ (1 : Byte).toNat ∧
      (reading.eq 3).state = .absent ∧ (0 : Half).toNat = 0 ∧ (3 : EqId).val ≠ 0 ∧
      firstBad (eventQueueChecks ⟨3, 2, 16, 64, 1, 0⟩) = none) ∧
    EntryRead (reading.setEq 3 events) ring ∧ EntryRead (reading.setEq 3 { events with unread := 0 }) ring ∧
    ((reading.setEq 3 events).eq 3).unread ≠ 0 ∧ ((reading.setEq 3 events).eq 3).state = .running ∧
    ((reading.setEq 3 { events with unread := 0 }).eq 3).unread = 0 ∧ reading.writer.inFlight = none ∧
    ((reading.setEq 3 { events with state := .faulted }).eq 3).state = .faulted :=
  ⟨reading_entryRead, by decide, ⟨rfl, rfl, _, rfl, rfl⟩, ⟨rfl, rfl, _, rfl, rfl⟩, by decide⟩

theorem witness_SetRequestQueueClaimsQueue :
    EntryRead (onLane { shared with queue := queue } reading) ring ∧ EntryRead reading ring ∧
    ((1 : Byte).toNat = (1 : Lane).val ∧ (3 : Byte).toNat = (3 : EqId).val ∧
      (256 : Half).toNat ∈ [4, 8, 16, 32, 64, 128, 256] ∧ (64 : Word).toNat % 64 = 0 ∧ (0 : Half).toNat = 0) ∧
    ((reading.lane 1).seq.state = .idle ∧ (reading.lane 1).queue.state = .absent) ∧
    firstBad (requestQueueChecks ⟨1, 3, 256, 64⟩) = none ∧
    ((onLane { shared with queue := queue } reading).lane 1).queue.state = .running ∧
    ((onLane { shared with queue := queue } reading).lane 1).queue.head ≠
      ((onLane { shared with queue := queue } reading).lane 1).queue.tail :=
  ⟨⟨rfl, rfl, _, rfl, rfl⟩, reading_entryRead, by decide⟩

/-- A part with slot 2 armed on lane 1. -/
def armed : State := onLane { shared with settings := { shared.settings with armed := [2] } } reading

theorem reading_free : ¬ InUse reading 2 := by
  have h : ∀ l : Lane, 2 ∉ (reading.lane l).settings.armed ∧ (reading.lane l).seq.active = none := by decide
  rintro ⟨l, hl | ⟨r, hr, -⟩⟩
  · exact (h l).1 hl
  · rw [(h l).2] at hr; cases hr

theorem witness_ProfileCommandsClaimSlot :
    EntryRead reading ring ∧ EntryRead armed ring ∧ (2 : Byte).toNat = (2 : SlotId).val ∧ (64 : Word).toNat % 4 = 0 ∧
    InUse armed 2 ∧ ¬ InUse reading 2 :=
  ⟨reading_entryRead, ⟨rfl, rfl, _, rfl, rfl⟩, rfl, rfl, ⟨1, Or.inl (by decide)⟩, reading_free⟩

theorem witness_ProfileRecordReadEnds :
    Outstanding loading .commandUnit .profileRecord ∧ loading.admin.state = .executing 7 (.profileRead 2) ∧
    recordFault record = none ∧ recordFault { record with tolerance := 4 } = some 21 :=
  ⟨⟨rfl, _, rfl, rfl⟩, rfl, by decide, by decide⟩

/-- One record for each encoding that passes, and one for each that fails after the ranges. -/
theorem witness_ProfileRecordChecks :
    let wide := { record with encoding := 1, mark1 := 1120, trailerMark := 0 }
    let biphase := { record with encoding := 2, trailerMark := 0, repeatMark := 0, repeatSpace := 0 }
    firstBad (recordRanges record) = none ∧ recordFault record = none ∧
    firstBad (recordRanges { record with space1 := 560 }) = none ∧ recordFault { record with space1 := 560 } = some 10 ∧
    firstBad (recordRanges wide) = none ∧ recordFault wide = none ∧
    firstBad (recordRanges { wide with mark1 := 600 }) = none ∧ recordFault { wide with mark1 := 600 } = some 9 ∧
    firstBad (recordRanges { wide with trailerMark := 1120 }) = none ∧
    recordFault { wide with trailerMark := 1120 } = some 11 ∧
    firstBad (recordRanges biphase) = none ∧ recordFault biphase = none ∧
    firstBad (recordRanges { biphase with leaderSpace := 500 }) = none ∧
    recordFault { biphase with leaderSpace := 500 } = some 6 ∧
    firstBad (recordRanges { record with learn := 1, learnMin := 24 }) = some 23 := by decide

theorem witness_LoadFilterReplacesEntry :
    EntryRead reading ring ∧ (63 : Byte).toNat = (63 : EntryId).val ∧ (0 : Byte).toNat = 0 ∧ (1 : Byte).toNat = 1 ∧
    (15 : Byte).toNat = (15 : SlotId).val ∧ (3 : Byte).toNat = (3 : EqId).val ∧
    [Action.press, .end_, .both, .each, .count, .drop, .wake][(6 : Byte).toNat]? = some .wake :=
  ⟨reading_entryRead, by decide⟩

theorem witness_SetLaneRefusals :
    EntryRead (loaded reading) ring ∧
    (let twice := { laneArgs with armedCount := 2, armed2 := 2 };
      let other := { laneArgs with armedCount := 2, armed2 := 3 };
      firstBad (laneChecks twice) = none ∧ (1 : Byte).toNat = (1 : Lane).val ∧
      (armedList twice)[1]? = some 2 ∧ 2 ∈ (armedList twice).take 1 ∧ ((armedList twice).take 1).Nodup ∧
      firstBad (laneChecks other) = none ∧ (armedList other).Nodup ∧ (armedList other)[1]? = some 3 ∧
      (loaded reading).slot 3 = .invalid ∧ (armedList other).take 1 = [2] ∧ (armedList laneArgs) = [2] ∧
      (loaded reading).slot 2 = .valid (profileOf record) ∧ (profileOf record).leaderMark ≠ 0) ∧
    EntryRead (onLane { shared with seq := { Sequencer.reset with state := .fetch } } (loaded reading)) ring ∧
    ((onLane { shared with seq := { Sequencer.reset with state := .fetch } } (loaded reading)).lane 1).seq.state =
      .fetch :=
  ⟨⟨rfl, rfl, _, rfl, rfl⟩, by decide, ⟨rfl, rfl, _, rfl, rfl⟩, rfl⟩

/-- A lane that has no press, one whose press stays armed, one whose press is no longer armed; each gate command; a lane
that leaves DISABLED with an entry waiting, its place at the bus port free and held by a discarded pair list read. -/
theorem witness_SetLaneApplied :
    EntryRead (loaded reading) ring ∧ EntryRead (loaded (onLane { shared with press := some press } reading)) ring ∧
    ((∀ i ∈ armedList laneArgs, i = 2) ∧ (loaded reading).slot 2 = .valid (profileOf record) ∧
      (profileOf record).leaderMark ≠ 0 ∧ firstBad (laneChecks laneArgs) = none ∧ (1 : Byte).toNat = (1 : Lane).val ∧
      (armedList laneArgs).Nodup ∧ ((loaded reading).lane 1).seq.active = none ∧
      ((loaded reading).lane 1).seq.state ≠ .fetch ∧ ((loaded reading).lane 1).seq.state ≠ .listFetch ∧
      ((loaded reading).lane 1).press = none) ∧
    (press.profile ∈ (laneSettings laneArgs).armed ∧ receiving (laneSettings laneArgs).mode = true ∧
      press.profile ∉ (laneSettings { laneArgs with armedCount := 0 }).armed ∧
      receiving (laneSettings { laneArgs with mode := 1 }).mode = false ∧
      (laneSettings laneArgs).guarded = false ∧ (laneSettings { laneArgs with guardMode := 1 }).guarded = true ∧
      (∀ command : Fin 3, firstBad (laneChecks
        { laneArgs with guardMode := 1, gateCommand := BitVec.ofNat 8 command.val }) = none)) ∧
    (let off : LaneState := { LaneState.reset with queue := queue };
      let s := loaded (onLane off reading);
      EntryRead s ring ∧ off.settings.mode = .disabled ∧ (laneSettings laneArgs).mode ≠ .disabled ∧
        off.seq.state = .idle ∧ off.queue.state = .running ∧ off.queue.head ≠ off.queue.tail ∧
        s.busSlot (.sequencer 1) = .idle ∧ off.seq.active = none ∧
        EntryRead (outstanding (.sequencer 1) (.pairList true) s) ring ∧
        (outstanding (.sequencer 1) (.pairList true) s).busSlot (.sequencer 1) =
          .outstanding (transaction (.pairList true))) :=
  ⟨⟨rfl, rfl, _, rfl, rfl⟩, ⟨rfl, rfl, _, rfl, rfl⟩, by decide, by decide, ⟨rfl, rfl, _, rfl, rfl⟩, by decide, by decide,
    by decide, by decide, by decide, by decide, by decide, ⟨rfl, rfl, _, rfl, rfl⟩, rfl⟩

/-- Lane 1 with its request on the line. -/
def sendingLane : LaneState :=
  { shared with seq := { Sequencer.reset with state := .sending, active := some active }, tx := some onTheLine }

theorem sending_oneRequest : sendingLane.oneRequest :=
  ⟨by decide, by decide, by decide, by decide, by decide, by decide, by decide⟩

theorem waiting_oneRequest : ({ shared with queue := queue } : LaneState).oneRequest :=
  ⟨by decide, by decide, by decide, by decide, by decide, by decide, by decide⟩

/-- Lane 1 in FETCH, its entry taken or its read in flight, with an entry waiting behind it. -/
def fetchingLane (e : Option RequestEntry) : LaneState :=
  { shared with queue := queue, seq := { Sequencer.reset with state := .fetch, taken := e } }

theorem fetching_oneRequest (e : Option RequestEntry) : (fetchingLane e).oneRequest :=
  ⟨by simp [fetchingLane, Sequencer.reset], by simp [fetchingLane, shared, LaneState.reset, SeqState.onLine],
    fun _ => rfl, by simp [fetchingLane, SeqState.runs], fun _ => rfl, by simp [fetchingLane], by simp [fetchingLane]⟩

/-- Lane 1 with a completion waiting, and the request queue given. -/
def postingLane (q : RequestQueue) : LaneState :=
  { shared with queue := q, seq := { Sequencer.reset with
      state := .posting, active := some active, completion := some ⟨1, .ok, 1, 2, 1, 0, 0, 0, 0⟩ } }

theorem posting_oneRequest (q : RequestQueue) : (postingLane q).oneRequest :=
  ⟨by simp [postingLane], by simp [postingLane, shared, LaneState.reset, SeqState.onLine],
    by simp [postingLane, Sequencer.reset], by simp [postingLane], by simp [postingLane], by simp [postingLane],
    by simp [postingLane]⟩

/-- A request on the line of a SHARED lane, with an echo guard and without one, and one in GAP; an entry's read in
flight and an entry taken; a completion waiting; an IDLE sequencer with an entry to flush and without one, its place at
the bus port free and held by a discarded pair list read. -/
theorem witness_AbortEndsRequests :
    EntryRead (onLane sendingLane reading) ring ∧ ((onLane sendingLane reading).lane 1).oneRequest ∧
    ((1 : Byte).toNat = (1 : Lane).val ∧ (1 : Byte).toNat ≤ 1 ∧ (false || (0 : Byte) == 1) = false ∧
      (false || (1 : Byte) == 1) = true) ∧
    (sendingLane.seq.active = some active ∧ sendingLane.seq.state ≠ .posting ∧ sendingLane.tx.isSome ∧
      sendingLane.settings.mode = .shared ∧ 0 < sendingLane.settings.echoGuard) ∧
    (let x : LaneState := { sendingLane with settings := { sendingLane.settings with echoGuard := 0 }, blind := true };
      EntryRead (onLane x reading) ring ∧ ((onLane x reading).lane 1).oneRequest ∧ x.settings.echoGuard = 0) ∧
    (EntryRead (onLane (holdingIn .gap) reading) ring ∧ ((onLane (holdingIn .gap) reading).lane 1).oneRequest ∧
      (holdingIn .gap).tx = none) ∧
    (∀ e, EntryRead (onLane (fetchingLane e) reading) ring ∧
      ((onLane (fetchingLane e) reading).lane 1).oneRequest ∧ (fetchingLane e).seq.state = .fetch ∧
      (fetchingLane e).seq.taken = e ∧ (fetchingLane e).seq.abort = none) ∧
    (∀ q, EntryRead (onLane (postingLane q) reading) ring ∧ ((onLane (postingLane q) reading).lane 1).oneRequest ∧
      (postingLane q).seq.state = .posting ∧ (postingLane q).seq.abort = none) ∧
    EntryRead (onLane { shared with queue := queue } reading) ring ∧
    ((onLane { shared with queue := queue } reading).lane 1).oneRequest ∧
    (shared.seq.state = .idle ∧ shared.seq.abort = none ∧ shared.queue.state ≠ .running ∧ queue.state = .running ∧
      1 ≤ (queue.tail + queue.size - queue.head) % queue.size ∧ reading.busSlot (.sequencer 1) = .idle) ∧
    EntryRead (outstanding (.sequencer 1) (.pairList true) (onLane { shared with queue := queue } reading)) ring ∧
    ((outstanding (.sequencer 1) (.pairList true) (onLane { shared with queue := queue } reading)).lane 1).oneRequest :=
  ⟨⟨rfl, rfl, _, rfl, rfl⟩, sending_oneRequest, by decide, by decide,
    ⟨⟨rfl, rfl, _, rfl, rfl⟩, sending_oneRequest, rfl⟩,
    ⟨⟨rfl, rfl, _, rfl, rfl⟩, ⟨by decide, by decide, by decide, by decide, by decide, by decide, by decide⟩, rfl⟩,
    fun e => ⟨⟨rfl, rfl, _, rfl, rfl⟩, fetching_oneRequest e, rfl, rfl, rfl⟩,
    fun q => ⟨⟨rfl, rfl, _, rfl, rfl⟩, posting_oneRequest q, rfl, rfl⟩,
    ⟨rfl, rfl, _, rfl, rfl⟩, waiting_oneRequest, by decide, ⟨rfl, rfl, _, rfl, rfl⟩, waiting_oneRequest⟩

/-- A lane at rest, and one whose capture writer's write is in flight, with a CAPTURE event behind it. -/
theorem witness_ResetLaneReturnsLane :
    EntryRead (onLane shared reading) ring ∧ (1 : Byte).toNat = (1 : Lane).val ∧
    ((onLane shared reading).lane 1).oneRequest ∧ shared.seq.state = .idle ∧ shared.seq.abort = none ∧
    shared.queue.state ≠ .running ∧ shared.outbox.settling = none ∧
    (let c : FinishedCapture := ⟨0x100, 70000, .ok, [⟨5, 6⟩]⟩;
      let x : LaneState :=
        { shared with capture := some c, outbox := { Outbox.reset with events := [captureEvent c 1 false] } };
      let s := outstanding (.captureWriter 1) (.captureBuffer false) (onLane x reading);
      EntryRead s ring ∧ (s.lane 1).oneRequest ∧ (s.lane 1).capture.isSome ∧ (s.lane 1).outbox.settling = none ∧
        s.busSlot (.captureWriter 1) = .outstanding (transaction (.captureBuffer false))) :=
  ⟨⟨rfl, rfl, _, rfl, rfl⟩, rfl, ⟨by decide, by decide, by decide, by decide, by decide, by decide, by decide⟩,
    rfl, rfl, by decide, rfl, ⟨rfl, rfl, _, rfl, rfl⟩,
    ⟨by decide, by decide, by decide, by decide, by decide, by decide, by decide⟩, rfl, rfl, rfl⟩

/-- The hold in each state that a RELEASE ends it in, and one whose tag differs. -/
theorem witness_ReleaseEndsHold :
    EntryRead (onLane (holdingIn .sending) reading) ring ∧ (1 : Byte).toNat = (1 : Lane).val ∧
    (∃ r, (holdingIn .sending).seq.active = some r ∧ r.kind = .hold ∧ r.entry.tag = 9 ∧ r.endCause = none ∧
      r.entry.tag ≠ 8) ∧
    (holdingIn .sending).seq.state = .sending ∧ (holdingIn .gap).seq.state = .gap ∧
    (holdingIn .defer).seq.state = .defer ∧ (holdingIn .holding).seq.state = .holding ∧
    (holdingIn .posting).seq.state = .posting ∧ shared.seq.active = none :=
  ⟨⟨rfl, rfl, _, rfl, rfl⟩, rfl, ⟨_, rfl, rfl, rfl, rfl, by decide⟩, by decide⟩

/-- A lane's block, the range that ends at the last entry, and the ends of both writes. -/
theorem witness_ReadCountersWritesBlock :
    EntryRead reading ring ∧
    (firstBad (counterChecks ⟨0, 3, 0, 0, 1, 4⟩) = none ∧ (0 : Byte).toNat = 0 ∧ (3 : Byte).toNat = (3 : Lane).val) ∧
    (firstBad (counterChecks ⟨1, 0, 63, 1, 0, 4⟩) = none ∧ (1 : Byte).toNat = 1) ∧
    Outstanding counting .commandUnit .counterBlock ∧
    counting.admin.state = .executing 7 (.counterWrite (.lane 1) true) ∧
    Outstanding { counting with admin := { counting.admin with state := .executing 7 (.counterWrite (.hits 63 1) true) } }
      .commandUnit .counterBlock :=
  ⟨reading_entryRead, by decide, by decide, ⟨rfl, _, rfl, rfl⟩, rfl, ⟨rfl, _, rfl, rfl⟩⟩

/-- No excursion, one that has held 19 µs, and one that has held 20 µs; glitch_width 0; a stopped input side. -/
theorem witness_PinEdgeFiltered :
    shared.pinHigh = false ∧ shared.pinHigh ≠ true ∧ LaneState.reset.filter = none ∧
    (0 < (excursion none).settings.glitchWidth ∧ shared.settings.glitchWidth = 0) ∧
    quiet.clock < 99981 + (excursion (some 99981)).settings.glitchWidth ∧
    99980 + (excursion (some 99980)).settings.glitchWidth ≤ quiet.clock := by decide

/-- A space that named no threshold, and the mark after it, far from its limit; a mark whose stuck-mark limit was
reached 80 µs before the excursion's edge, reported already and not yet; an excursion one microsecond short. -/
theorem witness_TransitionConfirmed :
    (let s := onLane (excursion (some 99980)) quiet;
      99980 + (s.lane 1).settings.glitchWidth ≤ s.clock ∧ s.namedThreshold 1 false = none ∧
      (s.lane 1).filter.map InputFilter.excursion = some (some 99980) ∧
      (let v := transition 1 { mark := false, firstEdge := 90000, handed := true, stuckReported := false,
                               unblinded := none, excursion := some 99980 } 99980 s;
        v.namedThreshold 1 true = some 65535 ∧ (v.lane 1).filter.map InputFilter.firstEdge = some 99980 ∧
          s.clock < 99980 + 65535)) ∧
    (let f (reported : Bool) : InputFilter :=
        { mark := true, firstEdge := 34365, handed := true, stuckReported := reported, unblinded := none,
          excursion := some 99980 };
      let s (reported : Bool) :=
        onLane { excursion none with filter := some (f reported), decoder := .leader 34365 } quiet;
      ((s false).lane 1).filter = some (f false) ∧ ((s true).lane 1).filter = some (f true) ∧
      (s false).namedThreshold 1 true = some 65535 ∧ 34365 + 65535 ≤ 99980 ∧
      (takeCrossing 1 true 34365 65535 (s false)).namedThreshold 1 true = none) ∧
    quiet.clock < 99981 + (excursion (some 99981)).settings.glitchWidth := by decide

/-- A capture of `n` pairs whose mark of 7 µs is open. -/
def capturing (n : Nat) : Decoder :=
  .capture { buffer := 0x100, start := 50000, pairs := List.replicate n ⟨5, 6⟩, openMark := some 7 }

/-- A candidate for a first mark of 9000. -/
def candidate : Candidate := { slot := 2, leader := some 256, repeated := some 256 }

/-- Lane 1 with the capture setting and the decoder given. -/
def captureLane (on : Bool) (d : Decoder) : LaneState :=
  { shared with settings := { shared.settings with capture := on, armed := [2] }, decoder := d }

/-- A claim that a list of one buffer answers, one that an empty list answers, and one with the setting off. -/
theorem claims (d : Decoder) :
    (∃ u, Claimed 1 { onLane (captureLane true d) (loaded quiet) with captureList := [0x100] } (some 0x100) u) ∧
    (∃ u, Claimed 1 (onLane (captureLane true d) (loaded quiet)) none u) ∧
    ∃ u, Claimed 1 (onLane (captureLane false d) (loaded quiet)) none u :=
  ⟨⟨_, .inl ⟨rfl, rfl, _, _, rfl, rfl, rfl⟩⟩, ⟨_, .inr (.inl ⟨rfl, .inl rfl, rfl, rfl⟩)⟩, ⟨_, .inr (.inr ⟨rfl, rfl, rfl⟩)⟩⟩

/-- A mark begun one microsecond before a first start and one begun at it; both outcomes of the first mark and each of
its space, on each side of settle silence; the closing mark at both ends of its window and beyond; the last pair of a
capture, the capture writer's place free and held by a discarded write. -/
theorem witness_DecoderTakesTransition :
    (let t : Transmission := { onTheLine with start := 100000, metHunt := some 90000 };
      t.metHunt = some 90000 ∧ t.start = quiet.clock ∧ 90000 < 99999 ∧ 99999 < t.start ∧
        t.start ≤ 100000 ∧ onTheLine.metHunt = none) ∧
    (0 < 1 ∧ 1 ≤ 1) ∧
    (hearing true (.leader 90000)).candidates 1 9000 = [candidate] ∧
    (∀ on : Bool, (onLane (captureLane on (.leader 90000)) (loaded quiet)).candidates 1 100 = []) ∧
    leaderSpaceMatch (profileOf record) candidate 4500 = some (256, none) ∧
    (leaderSpaceMatch (profileOf record) candidate 2250 = none ∧
      repeatSpaceMatch (profileOf record) candidate 2250 = some 256 ∧ press.profile = candidate.slot ∧
      shared.press = none) ∧
    (leaderSpaceMatch (profileOf record) candidate 99 = none ∧ repeatSpaceMatch (profileOf record) candidate 99 = none ∧
      99 < shared.settings.settleSilence ∧ leaderSpaceMatch (profileOf record) candidate 100 = none ∧
      repeatSpaceMatch (profileOf record) candidate 100 = none ∧ shared.settings.settleSilence ≤ 100 ∧
      shared.seq.state ≠ .defer ∧
      (let s := requesting active .defer (captureLane true (.spaceCheck 80000 9000 [candidate]));
        (s.lane 1).seq.state = .defer ∧ (s.lane 1).seq.active.isSome ∧ (s.lane 1).settings.mode = .shared ∧
          (s.lane 1).blind = false)) ∧
    symbol (profileOf record) 256 560 true ⟨0, 0, false, false, none⟩ = .ok ⟨0, 0, true, true, none⟩ ∧
    symbol (profileOf record) 256 5000 false ⟨0, 0, true, true, none⟩ = .broken ⟨0, 0, true, true, none⟩ ∧
    symbol (profileOf record) 256 560 false ⟨32, 0, true, true, none⟩ = .long ⟨32, 0, true, true, none⟩ ∧
    ((profileOf record).trailerMark = 560 ∧ fits (profileOf record) 256 700 560 = true ∧
      fits (profileOf record) 256 420 560 = true ∧ fits (profileOf record) 256 701 560 = false) ∧
    DrainKind.settle ≠ .stuck ∧ (List.replicate 62 (0 : Nat)).length < 63 ∧
    (List.replicate 63 (0 : Nat)).length = 63 ∧ quiet.busSlot (.captureWriter 1) = .idle ∧
    (outstanding (.captureWriter 1) (.captureBuffer true) quiet).busSlot (.captureWriter 1) ≠ .idle := by decide

/-- A mark at each end of its window and past it; scales at each end of learn_min and learn_max and past them; each
outcome of a symbol and of a frame's silence, in each encoding. -/
theorem witness_IntervalsJudgedByScaledWindows :
    (let p := profileOf { record with learn := 1, learnMin := 50, learnMax := 200 };
      p.learn = true ∧ markScale p 4500 9000 = some 128 ∧ markScale p 4464 9000 = none ∧
      markScale p 18000 9000 = some 512 ∧ markScale p 18040 9000 = none) ∧
    ((profileOf record).learn = false ∧ markScale (profileOf record) 11250 9000 = some 256 ∧
      markScale (profileOf record) 11251 9000 = none) ∧
    (candidate.leader = some 256 ∧ candidate.repeated = some 256 ∧
      (hearing true (.leader 90000)).candidates 1 9000 = [candidate]) ∧
    ((profileOf record).encoding = .pdist ∧
      silence (profileOf record) ⟨32, 5, true, true, none⟩ = .ok ⟨32, 5, true, true, none⟩) ∧
    (let p := profileOf { record with encoding := 1, mark1 := 1120, trailerMark := 2000 };
      p.encoding = .pwidth ∧ symbol p 256 2000 true ⟨1, 1, false, false, none⟩ = .ok ⟨1, 1, false, true, none⟩ ∧
      symbol p 256 560 false ⟨1, 1, false, true, none⟩ = .broken ⟨1, 1, false, true, none⟩ ∧
      silence p ⟨1, 1, false, false, none⟩ = .broken ⟨1, 1, false, false, none⟩) ∧
    (let p := profileOf { record with encoding := 2 };
      p.encoding = .biphase ∧ symbol p 256 1120 true ⟨1, 1, false, false, some false⟩ = .ok ⟨2, 1, false, false, some true⟩ ∧
      symbol p 256 1120 true ⟨1, 1, false, false, none⟩ = .broken ⟨1, 1, false, false, some true⟩ ∧
      silence p ⟨31, 1, false, false, some true⟩ = .ok ⟨32, 1 + 2 ^ 31, false, false, none⟩ ∧
      silence p ⟨31, 1, false, false, some false⟩ = .broken ⟨31, 1, false, false, some false⟩) := by decide

/-- A mark of exactly 65535 µs, and for each decoder state a space that reaches its threshold exactly, in SPACE_CHECK on
each side of settle silence; the capture writer's place free and held by a discarded write. -/
theorem witness_ThresholdCrossingActs :
    100000 - 34465 = 65535 ∧
    (let s := hearing true (.leader 34465);
      (s.lane 1).decoder ≠ .off ∧ (s.lane 1).decoder ≠ .blind ∧ (s.lane 1).decoder ≠ .drain .stuck) ∧
    (10000 ≤ 100000 - 90000 ∧ shared.settings.settleSilence ≤ 100000 - 99900) ∧
    ((hearing false (.repeatTail 50000 2 256)).profile 2).endSilence * 256 / 256 ≤ 100000 - 90000 ∧
    silence (profileOf record) ⟨32, 5, true, true, none⟩ = .ok ⟨32, 5, true, true, none⟩ ∧
    ((profileOf record).bitsMin ≤ 32 ∧ 31 < (profileOf record).bitsMin) ∧
    silence (profileOf record) ⟨32, 5, true, false, none⟩ = .broken ⟨32, 5, true, false, none⟩ ∧
    (let biphase := profileOf { record with encoding := 2 };
      silence biphase ⟨32, 5, false, false, some true⟩ = .long ⟨32, 5, false, false, none⟩) ∧
    quiet.busSlot (.captureWriter 1) = .idle ∧
    (outstanding (.captureWriter 1) (.captureBuffer true) quiet).busSlot (.captureWriter 1) ≠ .idle ∧
    (let s := hearing false (.spaceCheck 50000 9000 [candidate]);
      spaceThreshold s [candidate] = 10000 ∧ s.namedThreshold 1 false = some 10000 ∧
      (s.lane 1).settings.settleSilence ≤ 100000 - 90000 ∧ 100000 - 90000 < 10001 ∧
      (takeCrossing 1 false 90000 10000 s).namedThreshold 1 false = none) ∧
    (excursion (some 99981)).excursionPending = true ∧ (hearing false (.hunt 0)).namedThreshold 1 false = none := by
  decide

/-- An outbox of 3 and one of 4 events. -/
theorem witness_OutboxTakesOrDiscards :
    (List.replicate 3 (0 : Nat)).length < 4 ∧ 4 ≤ (List.replicate 4 (0 : Nat)).length ∧
    RxKind.frame ≠ .capture ∧ RxKind.capture = .capture := by decide

theorem witness_RepeatsRenewThePress :
    (onLane { shared with press := some press } (loaded quiet)).lane 1 = { shared with press := some press } ∧
    press.profile = 2 ∧ frame.profile = 2 ∧ frame.bitCount = press.bitCount ∧ frame.payload = press.payload ∧
    (let s := quiet.setSlot 2 (.valid (profileOf { record with collapseIdentical := 1 }));
      (s.profile 2).collapseIdentical = true) ∧ (shared.press = none ∧ press.profile ≠ 3) := by decide

/-- The last match entry hits payload 5 under mask 7, and nothing else does. -/
theorem witness_LookupTakesFirstHit :
    (let m : Filter := { lanes := 2, profile := 2, mask := 7, value := 5, action := .wake, target := 3, tag := 1 };
      let s := quiet.setEntry 63 { filter := some m, hits := 0xFFFFFFFF };
      (s.entry 63).filter = some m ∧ m.lanes.getLsbD (1 : Lane).val = true ∧ m.profile = frame.profile ∧
      frame.payload.setWidth 64 &&& m.mask = m.value) ∧ (quiet.entry 0).filter = none := by decide

/-- Both kinds of profile and each of the three judgments of the gate. -/
theorem witness_NewPressIsJudged :
    (∃ v t, lookup 1 frame (onLane shared (loaded quiet)) = (v, t)) ∧ shared.press = none ∧
    (press.profile = frame.profile ∧ (profileOf record).collapseIdentical = false) ∧
    (profileOf record).repeatMark ≠ 0 ∧
    ((profileOf { record with repeatMark := 0, repeatSpace := 0 }).repeatMark = 0 ∧
      (profileOf { record with repeatMark := 0, repeatSpace := 0 }).collapseIdentical = false) ∧
    shared.settings.guarded = false ∧
    (let guarded : LaneState := { shared with settings := { shared.settings with guarded := true } };
      guarded.gateOpen = false ∧ guarded.settings.guarded = true ∧
      ({ guarded with gateOpen := true }).gateOpen = true) :=
  ⟨⟨_, _, rfl⟩, by decide⟩

/-- The held count at 15 and at 16; a capture's write that is wanted, one that a RESET_LANE discarded, and one discarded
behind which a later capture waits. -/
theorem witness_CaptureBuffersPostedAndReported :
    EntryRead { reading with heldCount := 15 } ring ∧ EntryRead { reading with heldCount := 16 } ring ∧
    ((252 : Word).toNat % 4 = 0 ∧ 15 < 16 ∧ 16 ≤ 16) ∧
    Outstanding
      (outstanding (.captureWriter 1) (.captureBuffer false)
        (onLane { shared with capture := some ⟨0x100, 70000, .ok, [⟨5, 6⟩]⟩ } quiet))
      (.captureWriter 1) (.captureBuffer false) ∧
    Outstanding (outstanding (.captureWriter 1) (.captureBuffer true) (onLane shared quiet)) (.captureWriter 1)
      (.captureBuffer true) ∧ shared.capture = none ∧
    (let s := outstanding (.captureWriter 1) (.captureBuffer true)
        (onLane { shared with capture := some ⟨0x100, 70000, .ok, [⟨5, 6⟩]⟩ } quiet);
      Outstanding s (.captureWriter 1) (.captureBuffer true) ∧
        (s.lane 1).capture = some ⟨0x100, 70000, .ok, [⟨5, 6⟩]⟩) :=
  ⟨⟨rfl, rfl, _, rfl, rfl⟩, ⟨rfl, rfl, _, rfl, rfl⟩, by decide, ⟨rfl, _, rfl, rfl⟩, ⟨rfl, _, rfl, rfl⟩, rfl,
    ⟨rfl, _, rfl, rfl⟩, rfl⟩

/-- Each timer at its moment and one microsecond before it; a lane that is not blind and a blind one, in a space, in a
mark one microsecond short of the limit and in one that has reached it, its sequencer in DEFER and not, an excursion
begun at the limit and one microsecond before it. -/
theorem witness_ReceiveTimersExpire :
    press.windowDue ≤ 100000 ∧ 99999 < press.windowDue ∧
    ({ shared with gateDue := some 100000 }).gateDue = some 100000 ∧
    (let x : LaneState := { shared with blind := true, decoder := .blind, echoDue := some 100000 };
      x.blind = true ∧ x.echoDue = some 100000 ∧ x.filter.map InputFilter.mark = some false) ∧
    ((unblinding 34465).blind = true ∧ 34465 + 65535 ≤ quiet.clock ∧ ¬ 34466 + 65535 ≤ quiet.clock ∧
      (unblinding 34465).filter.map InputFilter.excursion = some none ∧ (unblinding 34465).seq.state ≠ .defer) ∧
    (let s := requesting active .defer (unblinding 34465);
      (s.lane 1).seq.state = .defer ∧ (s.lane 1).seq.active.isSome ∧ (s.lane 1).settings.mode = .shared) ∧
    ((unblindingUnder 99995).blind = true ∧ 34460 + 65535 ≤ 99995 ∧ ¬ 34460 + 65535 ≤ 99994 ∧
      (unblindingUnder 99995).filter.map InputFilter.excursion = some (some 99995) ∧
      (unblindingUnder 99995).seq.state ≠ .defer) ∧
    shared.blind = false := by decide

theorem fetching_outstanding : Outstanding fetching (.sequencer 1) .requestEntry := ⟨rfl, _, rfl, rfl⟩

/-- Kinds 0, 1, 4 and 5; a field out of range; a lane mode that admits the kind and one that does not; a flush. -/
theorem witness_RequestEntryReadEnds :
    Outstanding fetching (.sequencer 1) .requestEntry ∧
    (let a : AbortWork := { remaining := 1, aborted := 0 };
      ({ Sequencer.reset with abort := some a }).abort = some a) ∧
    (fetching.lane 1).seq.abort = none ∧ ((0 : Byte).toNat = 0 ∧ 5 ≤ (5 : Byte).toNat) ∧
    (1 ≤ (1 : Byte).toNat ∧ [RequestKind.send, .raw, .hold, .exchange][(1 : Byte).toNat - 1]? = some .send ∧
      [RequestKind.send, .raw, .hold, .exchange][(4 : Byte).toNat - 1]? = some .exchange) ∧
    firstBad (requestChecks .send { send with repeats := 16 }) = some 6 ∧ firstBad (requestChecks .send send) = none ∧
    (fetching.lane 1).settings.mode = .shared ∧ LaneMode.rxOnly ≠ .txOnly ∧ (fetching.lane 1).queue.state ≠ .absent :=
  ⟨fetching_outstanding, by decide⟩

/-- A slot that is VALID and one that is not; 31 and 32 bits; each of the later checks; each way the request goes on, the
list's place at the bus port free and held by a discarded read. -/
theorem witness_ActivationClaimsSlots :
    ((taking send).lane 1).seq.taken = some send ∧
    (1 ≤ send.kind.toNat ∧ [RequestKind.send, .raw, .hold, .exchange][send.kind.toNat - 1]? = some .send) ∧
    (send.profile.toNat ≤ 15 ∧ (2 : SlotId).val = send.profile.toNat ∧
      (taking send).slot 2 = .valid (profileOf record) ∧ (taking send).slot 3 = .invalid) ∧
    ((taking send).requestProfile send = profileOf record ∧ (profileOf record).bitsMin ≤ 32 ∧
      32 ≤ (profileOf record).bitsMax ∧ 31 < (profileOf record).bitsMin) ∧
    (send.repeatForm.toNat = 1 ∧ (profileOf { record with repeatMark := 0 }).repeatMark = 0 ∧
      (profileOf record).repeatMark ≠ 0) ∧
    (profileOf { record with leaderMark := 0 }).leaderMark = 0 ∧
    (let raw := taking { send with kind := 2, profile := 255 };
      let waits := outstanding (.sequencer 1) (.pairList true) raw;
      raw.busSlot (.sequencer 1) = .idle ∧ waits.lane 1 = raw.lane 1 ∧ waits.busSlot (.sequencer 1) ≠ .idle) := by
  decide

theorem witness_PairListReadEnds :
    Outstanding listing (.sequencer 1) (.pairList false) ∧ (listing.lane 1).seq.state = .listFetch ∧
    (∃ r, (listing.lane 1).seq.active = some r ∧ r.entry.pairCount.toNat = 2) ∧
    ((∀ p ∈ ([⟨1, 1⟩, ⟨1, 0⟩] : List RawPair), 1 ≤ p.mark.toNat) ∧
      ∀ p ∈ ([⟨1, 1⟩, ⟨1, 0⟩] : List RawPair).dropLast, 1 ≤ p.space.toNat) ∧
    ¬ (∀ p ∈ ([⟨1, 0⟩, ⟨1, 0⟩] : List RawPair).dropLast, 1 ≤ p.space.toNat) ∧
    Outstanding (outstanding (.sequencer 1) (.pairList true) fetching) (.sequencer 1) (.pairList true) ∧
    (fetching.lane 1).seq.state = .fetch ∧
    Outstanding (outstanding (.sequencer 1) (.pairList true) quiet) (.sequencer 1) (.pairList true) ∧
    (quiet.lane 1).seq.state ≠ .fetch ∧ (quiet.lane 1).seq.state ≠ .listFetch :=
  ⟨⟨rfl, _, rfl, rfl⟩, rfl, ⟨_, rfl, rfl⟩, by decide, by decide, ⟨rfl, _, rfl, rfl⟩, rfl, ⟨rfl, _, rfl, rfl⟩,
    by decide, by decide⟩

/-- The timer at its moment and before it; a first transmission on a busy line and on a free one; HOLDING; each
encoding. -/
theorem witness_SpacingTimerStartsOrDefers :
    (let s := requesting { active with started := 0 } .gap { shared with decoder := .leader 5 };
      (s.lane 1).seq.spacingDue = some 100000 ∧ 100000 ≤ s.clock ∧ 99999 < 100000 ∧ (s.lane 1).seq.state = .gap ∧
      (s.lane 1).settings.mode = .shared ∧ (s.lane 1).decoder = .leader 5) ∧
    shared.decoder = .hunt 0 ∧ (holdingIn .holding).seq.state = .holding ∧
    (requesting active .gap shared).dueHappening.isSome = true ∧
    ((profileOf record).encoding = .pdist ∧ (profileOf { record with encoding := 1 }).encoding = .pwidth ∧
      (profileOf { record with encoding := 2 }).encoding = .biphase) := by decide

/-- The end of the mark, and a tick of the high and of the low phase before it; an unmodulated mark. -/
theorem witness_OutputDrivesTransmission :
    (let s := onLane sendingLane quiet;
      (s.lane 1).tx = some onTheLine ∧ onTheLine.intervals = [] ++ ⟨true, 1000⟩ :: [] ∧
      12 * 1000 ≤ 12 * (s.clock - onTheLine.start) + 0 ∧
      (0 ≤ 12 * ((s.clock - 1) - onTheLine.start) + 11 ∧ 12 * ((s.clock - 1) - onTheLine.start) + 11 < 12 * 1000) ∧
      0 < onTheLine.carrierHigh + onTheLine.carrierLow) ∧
    (11699 % 316 < 110 ∧ ¬ 11999 % 316 < 110) ∧ ({ onTheLine with carrierHigh := 0, carrierLow := 0 }).carrierHigh = 0 ∧
    ((0 : Word).getLsbD 0 = false ∧ (0 : Word).getLsbD 1 = false ∧ quiet.engine = .running) ∧
    (2 : Word).getLsbD 1 = true ∧ LaneState.reset.tx = none := by decide

/-- Before and at the end of the transmission; a series that goes on and one that is over; each kind of request. -/
theorem witness_TransmissionEndsOnLine :
    (let s := onLane sendingLane quiet;
      (s.lane 1).tx = some onTheLine ∧ (s.lane 1).seq.active = some active ∧ (s.lane 1).seq.state = .sending ∧
      onTheLine.start + (onTheLine.intervals.map Machine.Interval.length).sum ≤ s.clock ∧
      99999 < onTheLine.start + (onTheLine.intervals.map Machine.Interval.length).sum) ∧
    (active.started.toNat ≤ active.entry.repeats.toNat ∧ active.entry.repeats.toNat < (2 : Half).toNat) ∧
    (({ active with endCause := some .released }).endCause = some .released ∧ active.endCause = none) ∧
    sendingLane.settings.echoGuard ≠ 0 := by decide

theorem witness_DeferAndHoldLimitExpire :
    (let s := requesting active .defer shared;
      (s.lane 1).seq.active = some active ∧ (s.lane 1).seq.deferDue = some 100000 ∧ 100000 ≤ s.clock ∧
      99999 < 100000 ∧ (s.lane 1).seq.state = .defer ∧ active.entry.flags.getLsbD 0 = false ∧
      ({ send with flags := 1 }).flags.getLsbD 0 = true) ∧
    ((requesting active .sending shared).lane 1).seq.limitDue = some 100000 ∧
    ((requesting active .sending shared).lane 1).seq.state = .sending ∧
    ((requesting active .holding shared).lane 1).seq.state = .holding ∧
    ((requesting active .ending shared).lane 1).seq.state = .ending := by decide

/-- A frame that passes and one that does not; the second and the third of three attempts; a sequencer outside LISTEN.
-/
theorem witness_ExchangeMeetsReply :
    (∃ r, ((listening 2).lane 1).seq.active = some r ∧ r.kind = .exchange ∧ r.entry.replyProfile.toNat ≤ 15 ∧
      frame.profile.val = r.entry.replyProfile.toNat ∧
      (frame.payload.setWidth 64 &&& r.entry.replyMask) = r.entry.replyValue ∧
      r.started.toNat < r.entry.attempts.toNat) ∧
    (∃ r, ((listening 3).lane 1).seq.active = some r ∧ r.entry.attempts.toNat ≤ r.started.toNat ∧
      ((4 : Payload).setWidth 64 &&& r.entry.replyMask) ≠ r.entry.replyValue) ∧
    ((listening 2).lane 1).seq.state = .listen ∧ ((listening 2).lane 1).seq.replyDue = some 100000 ∧
    100000 ≤ (listening 2).clock ∧ 99999 < 100000 ∧
    ((requesting active .gap shared).lane 1).seq.state ≠ .listen :=
  ⟨⟨_, rfl, by decide⟩, ⟨_, rfl, by decide⟩, by decide⟩

/-- A writer at the pointer's own place whose queue has one slot free, a full queue, a write in flight, an engine OFF.
-/
theorem witness_EventChoiceIsRoundRobin :
    (let s : State :=
        { (quiet.setEq 0 { events with unread := 15 }) with
          admin := { quiet.admin with state := .posting ⟨.ok, 1, 0, 0, 0⟩ } };
      s.engine = .running ∧ s.writer.inFlight = none ∧ s.writer.pointer = 0 ∧ (s.eq 0).state = .running ∧
      (s.eq 0).unread < (s.eq 0).size ∧ s.busSlot .eventWriter = .idle ∧
      ∀ j : Fin 9, ¬ (j - s.writer.pointer).val < ((0 : Fin 9) - s.writer.pointer).val) ∧
    ¬ ({ events with unread := 16 } : EventQueue).unread < events.size ∧ writing.writer.inFlight ≠ none ∧
    State.reset.engine ≠ .running := by decide

/-- A completion of lane 1 being written into EQ1, with the abort work given, and a command that waits for it. -/
def posted (a : Option AbortWork) (reset : Bool) : State :=
  { outstanding .eventWriter .event
      ((onLane { shared with queue := { queue with head := 0 }, seq := { Sequencer.reset with
          state := .posting, abort := a,
          completion := some ⟨1, .ok, 1, 2, 1, 0, 0, 0, 0⟩ } } quiet).setEq 1 events)
    with writer := { pointer := 0, inFlight := some (.sequencer 1, 1) }
         admin := { state := .executing 7 (.laneAbort 1 reset), queue := some ring } }

/-- An outbox's write and a completion's; each queue with more to read and without; a flush with more to answer and with
none; a place at the bus port that a discarded pair list read holds. -/
theorem witness_EventWriteEnds :
    Outstanding writing .eventWriter .event ∧ writing.writer.inFlight = some (.outbox 1, 1) ∧
    Outstanding (posted none false) .eventWriter .event ∧
    (posted none false).writer.inFlight = some (.sequencer 1, 1) ∧
    (quiet.admin.queue = some { ring with head := 0 } ∧ ({ ring with head := 0 } : AdminQueue).head = ring.tail ∧
      ring.head ≠ ring.tail ∧ quiet.busSlot .commandUnit = .idle) ∧
    (((posted none false).lane 1).seq.abort = none ∧
      ((posted none false).lane 1).queue.head = ((posted none false).lane 1).queue.tail ∧
      (shared.settings.mode ≠ .disabled ∧ queue.state = .running ∧ queue.head ≠ queue.tail) ∧
      (posted none false).busSlot (.sequencer 1) = .idle) ∧
    (∃ a, ((posted (some ⟨1, 0⟩) false).lane 1).seq.abort = some a ∧ a.remaining ≠ 0) ∧
    (∃ a, ((posted (some ⟨0, 1⟩) false).lane 1).seq.abort = some a ∧ a.remaining = 0) ∧
    (posted (some ⟨0, 1⟩) false).admin.state = .executing 7 (.laneAbort 1 false) ∧
    (posted (some ⟨0, 1⟩) true).admin.state = .executing 7 (.laneAbort 1 true) ∧
    ((writing.lane 1).outbox.settling = none ∧ (writing.lane 1).outbox.events.length = 2) ∧
    (let s := outstanding (.sequencer 1) (.pairList true) (posted (some ⟨1, 0⟩) false);
      Outstanding s .eventWriter .event ∧ s.busSlot (.sequencer 1) ≠ .idle) :=
  ⟨⟨rfl, _, rfl, rfl⟩, rfl, ⟨rfl, _, rfl, rfl⟩, rfl, by decide, by decide, ⟨_, rfl, by decide⟩, ⟨_, rfl, by decide⟩,
    rfl, rfl, by decide, ⟨rfl, _, rfl, rfl⟩, by decide⟩

/-- Each mode; unread one below the threshold and at it; a timer at its moment and before it. -/
theorem witness_ModerationRules :
    (events.mode ≠ .off ∧ events.threshold ≤ events.unread + 1) ∧
    (({ events with unread := 2 } : EventQueue).unread + 1 < events.threshold ∧ events.flag = false ∧
      events.holdoffDue = none) ∧
    (events.mode = .count ∧ ({ events with flag := true } : EventQueue).flag = true ∧ 3 < events.threshold ∧
      ¬ 4 < events.threshold) ∧
    ({ events with mode := .latched } : EventQueue).mode = .latched ∧
    (({ events with mode := .off } : EventQueue).mode = .off) ∧
    ((quiet.setEq 1 { events with holdoffDue := some 100000 }).eq 1).holdoffDue = some 100000 ∧
    100000 ≤ quiet.clock ∧ 99999 < 100000 := by decide

/-- An ADMIN_DONE, a completion and an outbox's event, each with its writer. -/
theorem witness_WrittenEventLayout :
    (let s : State := { quiet with admin := { quiet.admin with state := .posting ⟨.ok, 1, 0, 0, 0⟩ } };
      s.admin.state = .posting ⟨.ok, 1, 0, 0, 0⟩ ∧ s.admin.queue = some { ring with head := 0 }) ∧
    (postingLane queue).seq.completion = some ⟨1, .ok, 1, 2, 1, 0, 0, 0, 0⟩ ∧
    ∃ ev rest, (writing.lane 1).outbox.events = ev :: rest :=
  ⟨⟨rfl, rfl⟩, rfl, _, _, rfl⟩

/-- The first and the last command code, the codes on each side of them, and the last pair of a list. -/
theorem witness_RecordsRoundTrip :
    (Instr.setLane 7 laneArgs).wellFormed = true ∧ (encodeAdminEntry (.setLane 7 laneArgs)).isSome = true ∧
    (Instr.unknownCommand 13 7).wellFormed = true ∧ (((entryBytes [1]).getD 0 0).toNat = 1) ∧
    (((entryBytes [12]).getD 0 0).toNat = 12) ∧ (((entryBytes []).getD 0 0).toNat = 0) ∧
    13 ≤ ((entryBytes [13]).getD 0 0).toNat ∧ 1 < 2 := by decide

/-- A record of each encoding with a leader, the bit counts at both ends, and a BIPHASE frame that begins with a space.
-/
theorem witness_FramesDecodeToTheirPayload :
    (recordFault record = none ∧ (profileOf record).leaderMark ≠ 0 ∧ (profileOf record).bitsMin ≤ 32 ∧
      32 ≤ (profileOf record).bitsMax) ∧
    (let wide := { record with encoding := 1, mark1 := 1120, trailerMark := 0 };
      recordFault wide = none ∧ (profileOf wide).encoding = .pwidth) ∧
    (let biphase := { record with encoding := 2, trailerMark := 0, repeatMark := 0, repeatSpace := 0, leaderSpace := 900 };
      recordFault biphase = none ∧ (profileOf biphase).encoding = .biphase ∧
      markFirst (profileOf biphase).polarity ((1 : Payload).getLsbD 0) = true ∧
      markFirst (profileOf biphase).polarity ((0 : Payload).getLsbD 0) = false ∧
      inWindow ((profileOf biphase).leaderSpace + (profileOf biphase).mark0) (profileOf biphase).leaderSpace
        (profileOf biphase).tolerance = false) := by decide

theorem witness_BoundsKeptByEveryStep :
    (OutboxesFit writing ∧ SettingsInRange writing ∧ EventRingsKept writing ∧ RequestRingsKept writing) ∧
    ∃ t, step writing = .next t := by
  refine ⟨⟨?_, ?_, ⟨?_, ?_⟩, ?_, ?_⟩, ⟨_, rfl⟩⟩
  · unfold OutboxesFit; decide
  · unfold SettingsInRange LaneSettings.inRange; decide
  · unfold EventQueue.kept; decide
  · intro w q h
    cases h
    decide
  · decide
  · intro q h
    cases h
    decide

/-- A buffer in a lane's capture writer, and one in the list. -/
def capturesHeld : State :=
  { onLane { shared with capture := some ⟨0x100, 70000, .ok, [⟨5, 6⟩]⟩ } quiet with captureList := [0x200], heldCount := 2 }

theorem witness_BuffersKeptByEveryStep : BuffersAccounted capturesHeld ∧ ∃ t, step capturesHeld = .next t := by
  refine ⟨?_, ⟨_, rfl⟩⟩
  unfold BuffersAccounted
  decide

theorem witness_SlotsKeptByEveryStep : SlotsHeld (loaded armed) ∧ ∃ t, step (loaded armed) = .next t := by
  refine ⟨⟨by decide, by decide, ?_⟩, ⟨_, rfl⟩⟩
  intro tag i h
  cases h

/-- A part STOPPING with one transaction outstanding. -/
def stoppingPart : State := stopEngine reading

theorem witness_QuietKeptByEveryStep :
    QuietUnlessRunning stoppingPart ∧ stoppingPart.engine = .stopping ∧ ∃ t, step stoppingPart = .next t := by
  refine ⟨fun _ => ⟨by decide, by decide, by decide, by decide, by decide, by decide, ?_⟩, by decide, ⟨_, rfl⟩⟩
  have h : (∀ l : Lane, (stoppingPart.busSlot (.sequencer l)).notPending = true ∧
      (stoppingPart.busSlot (.captureWriter l)).notPending = true) ∧
      (stoppingPart.busSlot .commandUnit).notPending = true ∧
      (stoppingPart.busSlot .eventWriter).notPending = true := by decide
  intro c
  cases c with
  | commandUnit => exact h.2.1
  | sequencer l => exact (h.1 l).1
  | captureWriter l => exact (h.1 l).2
  | eventWriter => exact h.2.2

theorem reset_oneRequest : LaneState.reset.oneRequest :=
  ⟨by decide, by decide, by decide, by decide, by decide, by decide, by decide⟩

theorem witness_OneRequestKeptByEveryStep :
    OneRequestEach (onLane sendingLane quiet) ∧ ∃ t, step (onLane sendingLane quiet) = .next t := by
  refine ⟨⟨?_, fun _ => by decide, ?_⟩, ⟨_, rfl⟩⟩
  · have h : ∀ l : Lane, (onLane sendingLane quiet).lane l = sendingLane ∨
        (onLane sendingLane quiet).lane l = LaneState.reset := by decide
    intro l
    rcases h l with h | h <;> rw [h]
    · exact ⟨sending_oneRequest, nofun⟩
    · exact ⟨reset_oneRequest, nofun⟩
  · intro l q h
    cases h

end Sys2Proof.Tests
end

section
/-! Profile slots in use (R1, R2): what a lane arms and which slots its active request names, what each operation of a
lane does to that, and which steps can change it. -/

namespace Sys2Proof.Machine

/-! ## What a lane uses of the profile store -/

/-- All that decides which slots a lane uses: its settings, and the kind and entry of its active request. -/
def LaneState.use (x : LaneState) : LaneSettings × Option (RequestKind × RequestEntry) :=
  (x.settings, x.seq.active.map fun r => (r.kind, r.entry))

/-- What lane `l` uses. -/
def State.use (s : State) (l : Lane) : LaneSettings × Option (RequestKind × RequestEntry) := (s.lane l).use

@[simp] theorem State.use_setLane (l : Lane) (x : LaneState) (s : State) : (s.setLane l x).use l = x.use := by
  simp [State.use]

/-- An update of a lane's state that leaves settings and active request alone. -/
@[simp] theorem State.use_modLane {l : Lane} {f : LaneState → LaneState} (s : State)
    (h : ∀ x, (f x).settings = x.settings ∧ (f x).seq.active = x.seq.active) : (s.modLane l f).use l = s.use l := by
  simp [State.use, LaneState.use, h]

@[simp] theorem State.use_modSeq {l : Lane} {f : Sequencer → Sequencer} (s : State)
    (h : ∀ q, (f q).active = q.active) : (s.modSeq l f).use l = s.use l := by
  simp [State.use, LaneState.use, h]

/-- The active request `r` is replaced by one of the same kind and entry, after updates that keep the lane's use. -/
theorem State.use_modLane_active {l : Lane} {s u : State} {r r' : ActiveRequest} {f : LaneState → LaneState}
    (hu : u.use l = s.use l) (h : (s.lane l).seq.active = some r)
    (hf : ∀ x, (f x).settings = x.settings ∧ (f x).seq.active = some r')
    (hr : r'.kind = r.kind ∧ r'.entry = r.entry) : (u.modLane l f).use l = s.use l := by
  simp only [State.use, LaneState.use, Prod.mk.injEq] at hu
  simp [State.use, LaneState.use, h, hf, hr, hu]

@[simp] theorem State.use_captureList (s : State) (list : List Word) (l : Lane) :
    State.use { s with captureList := list } l = s.use l := rfl

@[simp] theorem State.use_setBus (s : State) (c : BusClient) (x : BusSlot) (l : Lane) :
    (s.setBus c x).use l = s.use l := rfl

@[simp] theorem State.use_setEntry (s : State) (i : EntryId) (x : MatchEntry) (l : Lane) :
    (s.setEntry i x).use l = s.use l := rfl

@[simp] theorem askBus_use (c : BusClient) (t : Transaction) (s : State) (l : Lane) :
    (askBus c t s).use l = s.use l := by
  rcases askBus_cases c t s with ⟨-, h⟩ | ⟨-, h⟩ <;> simp [h]

@[simp] theorem bump_use (l : Lane) (c : LaneCounter) (s : State) : (bump l c s).use l = s.use l := by
  unfold bump; simp

@[simp] theorem returnBuffer_use (b : Word) (s : State) (l : Lane) : (returnBuffer b s).use l = s.use l := rfl

theorem takeBuffer_use {l : Lane} {b : Word} {s t : State} (h : takeBuffer l s = some (b, t)) : t.use l = s.use l := by
  obtain ⟨rest, -, -, rfl⟩ := takeBuffer_eq_some.mp h
  rfl

/-! ## Outbox and press tracker -/

@[simp] theorem enterOutbox_use (l : Lane) (ev : RxEvent) (s : State) : (enterOutbox l ev s).use l = s.use l := by
  rcases enterOutbox_cases l ev s with ⟨-, h⟩ | ⟨-, h⟩ <;> simp [h]

@[simp] theorem makeFrame_use (l : Lane) (ev : RxEvent) (s : State) : (makeFrame l ev s).use l = s.use l := by
  unfold makeFrame
  dsimp only
  split <;> simp

@[simp] theorem closePress_use (l : Lane) (s : State) : (closePress l s).use l = s.use l := by
  unfold closePress
  split
  · rfl
  · dsimp only
    split <;> simp

@[simp] theorem countRepeat_use (l : Lane) (p : Press) (start : Moment) (s : State) :
    (countRepeat l p start s).use l = s.use l := by
  unfold countRepeat
  dsimp only
  split <;> simp

@[simp] theorem lookup_use (l : Lane) (f : GoodFrame) (s : State) : (lookup l f s).2.use l = s.use l := by
  unfold lookup
  split
  · split <;> simp
  · rfl

@[simp] theorem firstEvents_use (l : Lane) (f : GoodFrame) (v : Verdict) (phase : Option PressPhase) (s : State) :
    (firstEvents l f v phase s).use l = s.use l := by
  unfold firstEvents
  split <;> simp

@[simp] theorem openPress_use (l : Lane) (f : GoodFrame) (v : Verdict) (d e : Bool) (s : State) :
    (openPress l f v d e s).use l = s.use l := by
  unfold openPress
  dsimp only
  split <;> simp

@[simp] theorem newPress_use (l : Lane) (f : GoodFrame) (s : State) : (newPress l f s).use l = s.use l := by
  unfold newPress
  dsimp only
  split
  · split <;> simp
  · simp

@[simp] theorem takeFrame_use (l : Lane) (f : GoodFrame) (s : State) : (takeFrame l f s).use l = s.use l := by
  unfold takeFrame
  split
  · simp
  · split <;> simp

@[simp] theorem takeRepeatCode_use (l : Lane) (i : SlotId) (start : Moment) (s : State) :
    (takeRepeatCode l i start s).use l = s.use l := by
  unfold takeRepeatCode
  split
  · simp
  · split <;> simp

/-! ## Transmission -/

@[simp] theorem abandonWork_use (l : Lane) (s : State) : (abandonWork l s).use l = s.use l := by
  unfold abandonWork
  split <;> simp

@[simp] theorem raiseBlind_use (l : Lane) (count : Bool) (s : State) : (raiseBlind l count s).use l = s.use l := by
  unfold raiseBlind
  dsimp only
  split
  · simp
  · split <;> simp

@[simp] theorem markOverrun_use (l : Lane) (s : State) : (markOverrun l s).use l = s.use l := by
  unfold markOverrun; simp

@[simp] theorem blindMark_use (l : Lane) (edge : Moment) (s : State) : (blindMark l edge s).use l = s.use l := by
  rcases blindMark_cases l edge s with ⟨t, since, -, -, -, -, -, h⟩ | h <;> simp [h]

@[simp] theorem complete_use (l : Lane) (c : Completion) (s : State) : (complete l c s).use l = s.use l := by
  unfold complete; simp

@[simp] theorem answer_use (l : Lane) (e : RequestEntry) (c : Code) (p d : Byte) (s : State) :
    (answer l e c p d s).use l = s.use l := by
  unfold answer; simp

@[simp] theorem finish_use (l : Lane) (r : ActiveRequest) (c : Code) (d : Byte) (s : State) :
    (finish l r c d s).use l = s.use l := by
  unfold finish; simp

theorem setEndCause_use {l : Lane} {r : ActiveRequest} {s : State} (h : (s.lane l).seq.active = some r)
    (c : Option Code) : (setEndCause l r c s).use l = s.use l :=
  State.use_modLane_active rfl h (fun _ => ⟨rfl, rfl⟩) ⟨rfl, rfl⟩

theorem endHold_use {l : Lane} {r : ActiveRequest} {s : State} (h : (s.lane l).seq.active = some r) (c : Code) :
    (endHold l r c s).use l = s.use l := by
  unfold endHold
  simp [setEndCause_use h]

@[simp] theorem beginFetch_use (l : Lane) (s : State) : (beginFetch l s).use l = s.use l := by
  unfold beginFetch; simp

@[simp] theorem fetchCheck_use (l : Lane) (s : State) : (fetchCheck l s).use l = s.use l := by
  unfold fetchCheck
  split <;> simp

/-- The start of a transmission counts it in the active request and changes nothing else of it (R98). -/
@[simp] theorem startTransmission_use (l : Lane) (forced : Bool) (s : State) :
    (startTransmission l forced s).use l = s.use l := by
  unfold startTransmission
  split
  · rfl
  · rename_i r hr
    refine State.use_modLane_active ?_ hr (fun _ => ⟨rfl, rfl⟩) ⟨rfl, rfl⟩
    split
    · split <;> simp
    · split <;> simp

@[simp] theorem huntEntered_use (l : Lane) (s : State) : (huntEntered l s).use l = s.use l := by
  unfold huntEntered
  split <;> simp

@[simp] theorem enterHunt_use (l : Lane) (s : State) : (enterHunt l s).use l = s.use l := by
  unfold enterHunt; simp

@[simp] theorem takeGoodFrame_use (l : Lane) (f : GoodFrame) (s : State) : (takeGoodFrame l f s).use l = s.use l := by
  unfold takeGoodFrame
  dsimp only
  split
  · split <;> simp
  · simp

/-! ## Decoder -/

@[simp] theorem setDecoder_use (l : Lane) (d : Decoder) (s : State) : (setDecoder l d s).use l = s.use l := by
  unfold setDecoder; simp

@[simp] theorem finishCapture_use (l : Lane) (b : Word) (start : Moment) (c : Code) (pairs : List CapturePair)
    (s : State) : (finishCapture l b start c pairs s).use l = s.use l := by
  unfold finishCapture; simp

@[simp] theorem frameError_use (l : Lane) (c : Code) (i : SlotId) (start : Moment) (part : PartialFrame) (s : State) :
    (frameError l c i start part s).use l = s.use l := by
  unfold frameError
  dsimp only
  split <;> simp

@[simp] theorem brokenInside_use (l : Lane) (c : Code) (i : SlotId) (k : Nat) (start : Moment) (part : PartialFrame)
    (s : State) : (brokenInside l c i k start part s).use l = s.use l := by
  unfold brokenInside; simp

@[simp] theorem brokenAtEnd_use (l : Lane) (c : Code) (i : SlotId) (start : Moment) (part : PartialFrame) (s : State) :
    (brokenAtEnd l c i start part s).use l = s.use l := by
  unfold brokenAtEnd; simp

@[simp] theorem frameEnds_use (l : Lane) (i : SlotId) (start : Moment) (part : PartialFrame) (s : State) :
    (frameEnds l i start part s).use l = s.use l := by
  unfold frameEnds
  split <;> simp

@[simp] theorem orphan_use (l : Lane) (i : SlotId) (k : Nat) (s : State) : (orphan l i k s).use l = s.use l := by
  unfold orphan; simp

@[simp] theorem claimCapture_use (l : Lane) (s : State) : (claimCapture l s).2.use l = s.use l := by
  unfold claimCapture
  split
  · split
    · rename_i h; exact takeBuffer_use h
    · simp
  · simp

@[simp] theorem firstMarkEnds_use (l : Lane) (start : Moment) (m : Nat) (s : State) :
    (firstMarkEnds l start m s).use l = s.use l := by
  unfold firstMarkEnds
  have h := claimCapture_use l s
  split
  · simp
  · split <;> rename_i hc <;> rw [hc] at h <;> simpa using h

@[simp] theorem unclassifiedSpace_use (l : Lane) (start : Moment) (m d : Nat) (mark : Option Moment) (s : State) :
    (unclassifiedSpace l start m d mark s).use l = s.use l := by
  have h := claimCapture_use l s
  unfold unclassifiedSpace
  generalize claimCapture l s = claim at h ⊢
  obtain ⟨_ | b, u⟩ := claim <;> dsimp only at h ⊢ <;> split
  · simpa using h
  · split <;> simpa using h
  · simpa using h
  · split <;> simpa using h

@[simp] theorem firstSpaceEnds_use (l : Lane) (start : Moment) (m : Nat) (cands : List Candidate) (d : Nat)
    (edge : Moment) (s : State) : (firstSpaceEnds l start m cands d edge s).use l = s.use l := by
  unfold firstSpaceEnds
  split <;> simp

@[simp] theorem symbolTaken_use (l : Lane) (start : Moment) (i : SlotId) (k d : Nat) (level : Bool)
    (part : PartialFrame) (s : State) : (symbolTaken l start i k d level part s).use l = s.use l := by
  unfold symbolTaken
  split <;> simp

@[simp] theorem closingMarkEnds_use (l : Lane) (i : SlotId) (k d : Nat) (s : State) :
    (closingMarkEnds l i k d s).use l = s.use l := by
  unfold closingMarkEnds
  dsimp only
  split <;> simp

@[simp] theorem captureMark_use (l : Lane) (w : CaptureWork) (d : Nat) (s : State) :
    (captureMark l w d s).use l = s.use l := by
  unfold captureMark; simp

@[simp] theorem captureSpace_use (l : Lane) (w : CaptureWork) (d : Nat) (s : State) :
    (captureSpace l w d s).use l = s.use l := by
  unfold captureSpace
  split
  · rfl
  · dsimp only
    split <;> simp

@[simp] theorem takeTransition_use (l : Lane) (mark : Bool) (edge : Moment) (ended : Option Nat) (s : State) :
    (takeTransition l mark edge ended s).use l = s.use l := by
  unfold takeTransition
  split
  case h_1 | h_9 | h_10 => rfl
  all_goals split <;> simp

@[simp] theorem lineStuck_use (l : Lane) (edge : Moment) (s : State) : (lineStuck l edge s).use l = s.use l := by
  unfold lineStuck; simp

@[simp] theorem spaceCrossing_use (l : Lane) (threshold : Nat) (s : State) :
    (spaceCrossing l threshold s).use l = s.use l := by
  unfold spaceCrossing
  split
  case h_2 => split <;> simp
  case h_5 => split <;> simp
  all_goals simp

@[simp] theorem takeCrossing_use (l : Lane) (mark : Bool) (edge : Moment) (threshold : Nat) (s : State) :
    (takeCrossing l mark edge threshold s).use l = s.use l := by
  unfold takeCrossing
  split <;> simp

@[simp] theorem reportCrossings_use (l : Lane) (cutoff : Moment) (n : Nat) (s : State) :
    (reportCrossings l cutoff n s).use l = s.use l := by
  induction n generalizing s with
  | zero => rfl
  | succ n ih =>
    unfold reportCrossings
    split
    · rfl
    · rw [ih, takeCrossing_use]

@[simp] theorem crossingsNow_use (l : Lane) (s : State) : (crossingsNow l s).use l = s.use l := by
  unfold crossingsNow
  split
  · rfl
  · split <;> simp

@[simp] theorem crossingsAtOnce_use (l : Lane) (s : State) : (crossingsAtOnce l s).use l = s.use l := by
  unfold crossingsAtOnce
  split <;> simp

/-! ## Conditioner -/

@[simp] theorem restartInput_use (l : Lane) (s : State) : (restartInput l s).use l = s.use l := by
  unfold restartInput
  split <;> simp

@[simp] theorem withdrawBlind_use (l : Lane) (s : State) : (withdrawBlind l s).use l = s.use l := by
  unfold withdrawBlind
  split <;> simp

@[simp] theorem takeConfirmed_use (l : Lane) (edge : Moment) (s : State) :
    (takeConfirmed l edge s).use l = s.use l := by
  unfold takeConfirmed
  dsimp only
  split <;> simp

@[simp] theorem confirmExcursion_use (l : Lane) (edge : Moment) (s : State) :
    (confirmExcursion l edge s).use l = s.use l := by
  unfold confirmExcursion; simp

@[simp] theorem confirmHeld_use (l : Lane) (s : State) : (confirmHeld l s).use l = s.use l := by
  unfold confirmHeld
  split <;> simp

@[simp] theorem setExcursion_use (l : Lane) (e : Option Moment) (s : State) :
    (setExcursion l e s).use l = s.use l := by
  unfold setExcursion; simp

@[simp] theorem takePinEdge_use (l : Lane) (high : Bool) (s : State) : (takePinEdge l high s).use l = s.use l := by
  unfold takePinEdge
  split
  · rfl
  · dsimp only
    split <;> simp

/-! ## Transmit sequencer -/

@[simp] theorem startEchoGuard_use (l : Lane) (s : State) : (startEchoGuard l s).use l = s.use l := by
  unfold startEchoGuard
  dsimp only
  split <;> simp

@[simp] theorem leaveLine_use (l : Lane) (r : ActiveRequest) (s : State) : (leaveLine l r s).use l = s.use l := by
  unfold leaveLine
  dsimp only
  split <;> simp

@[simp] theorem enterGap_use (l : Lane) (due : Moment) (s : State) : (enterGap l due s).use l = s.use l := by
  unfold enterGap; simp

@[simp] theorem firstGap_use (l : Lane) (s : State) : (firstGap l s).use l = s.use l := by
  unfold firstGap; simp

@[simp] theorem afterTransmission_use (l : Lane) (r : ActiveRequest) (s : State) :
    (afterTransmission l r s).use l = s.use l := by
  cases hk : r.kind <;> simp only [afterTransmission, hk]
  case exchange => simp
  all_goals split <;> simp

@[simp] theorem transmissionEnds_use (l : Lane) (s : State) : (transmissionEnds l s).use l = s.use l := by
  unfold transmissionEnds
  dsimp only
  split
  · split <;> simp
  · rfl

@[simp] theorem deferOrStart_use (l : Lane) (s : State) : (deferOrStart l s).use l = s.use l := by
  unfold deferOrStart
  dsimp only
  split <;> simp

@[simp] theorem spacingExpires_use (l : Lane) (s : State) : (spacingExpires l s).use l = s.use l := by
  unfold spacingExpires
  dsimp only
  split
  · split
    · split <;> simp
    · simp
    · rfl
  · rfl

@[simp] theorem deferExpires_use (l : Lane) (s : State) : (deferExpires l s).use l = s.use l := by
  unfold deferExpires
  dsimp only
  split
  · split
    · split <;> simp
    · rfl
  · rfl

theorem enterEnding_use {l : Lane} {r : ActiveRequest} {s : State} (h : (s.lane l).seq.active = some r) (c : Code) :
    (enterEnding l r c s).use l = s.use l :=
  State.use_modLane_active rfl h (fun _ => ⟨rfl, rfl⟩) ⟨rfl, rfl⟩

@[simp] theorem holdLimitExpires_use (l : Lane) (s : State) : (holdLimitExpires l s).use l = s.use l := by
  unfold holdLimitExpires
  dsimp only
  split
  · split
    · rename_i hr; exact enterEnding_use hr _
    · rename_i hr; exact endHold_use hr _
    · rfl
  · rfl

@[simp] theorem replyExpires_use (l : Lane) (s : State) : (replyExpires l s).use l = s.use l := by
  unfold replyExpires
  dsimp only
  split
  · split
    · split <;> simp
    · rfl
  · rfl

@[simp] theorem takeEntry_use (l : Lane) (e : RequestEntry) (s : State) : (takeEntry l e s).use l = s.use l := by
  unfold takeEntry advanceHead countFlushed
  dsimp only
  split
  · simp
  · split <;> simp

theorem listArrives_use {l : Lane} {r : ActiveRequest} {s : State} (h : (s.lane l).seq.active = some r)
    (pairs : List RawPair) : (listArrives l r pairs s).use l = s.use l := by
  unfold listArrives
  split
  · rw [firstGap_use]
    exact State.use_modLane_active rfl h (fun _ => ⟨rfl, rfl⟩) ⟨rfl, rfl⟩
  · simp

theorem releaseHold_use {l : Lane} {tag : Half} {s t : State} (h : releaseHold l tag s = some t) :
    t.use l = s.use l := by
  unfold releaseHold at h
  dsimp only at h
  split at h
  · cases h
  · rename_i r hr
    have hact : (s.lane l).seq.active = some r := by
      unfold Sequencer.releasable at hr
      split at hr
      · cases hr
      · rename_i r' ha
        rw [Option.ite_none_right_eq_some] at hr
        rw [ha, hr.2]
    split at h <;> cases h
    · exact enterEnding_use hact _
    all_goals exact endHold_use hact _

@[simp] theorem discardListRead_use (l : Lane) (s : State) : (discardListRead l s).use l = s.use l := by
  unfold discardListRead
  dsimp only
  split <;> simp

@[simp] theorem discardListRead_lane (l l' : Lane) (s : State) : (discardListRead l s).lane l' = s.lane l' := by
  unfold discardListRead
  dsimp only
  split <;> simp

theorem abortActive_use {l : Lane} {r : ActiveRequest} {s : State} (h : (s.lane l).seq.active = some r) :
    (abortActive l r s).use l = s.use l := by
  unfold abortActive
  have hcause : (setEndCause l r none (discardListRead l s)).use l = s.use l := by
    rw [setEndCause_use (by simpa using h), discardListRead_use]
  dsimp only
  split <;> simpa using hcause

@[simp] theorem abortInHand_use (l : Lane) (flush : Bool) (s : State) : (abortInHand l flush s).1.use l = s.use l := by
  unfold abortInHand
  dsimp only
  split
  · rfl
  · rename_i hr _; exact abortActive_use hr
  · split <;> simp
  · rfl

theorem claimRequestQueue_use {l : Lane} {a : RequestQueueArgs} {s t : State}
    (h : claimRequestQueue l a s = some t) : t.use l = s.use l := by
  unfold claimRequestQueue at h
  dsimp only at h
  rw [Option.ite_none_right_eq_some] at h
  rw [← Option.some.inj h.2]
  simp

theorem noticeRequestQueue_use {l : Lane} {tail : Nat} {s t : State} (h : noticeRequestQueue l tail s = some t) :
    t.use l = s.use l := by
  unfold noticeRequestQueue at h
  dsimp only at h
  split at h
  · cases h
  all_goals
    rw [Option.ite_none_right_eq_some] at h
    rw [← Option.some.inj h.2]
    simp

end Sys2Proof.Machine
end

section
/-! The profile slots in use stay VALID (R1, R2): `SlotsHeld` by what each lane uses, and every step keeps it. -/

namespace Sys2Proof.Machine

open Sys2Proof.Claims

/-! ## `SlotsHeld`, lane by lane -/

/-- A slot is in use exactly when R2 says so. -/
theorem State.inUse_iff {s : State} {i : SlotId} : s.inUse i = true ↔ InUse s i := by
  unfold State.inUse InUse
  have hall : ∀ l : Lane, l ∈ allLanes := by decide
  simp only [List.any_eq_true, hall, true_and, Bool.or_eq_true, List.contains_iff_mem]
  refine exists_congr fun l => or_congr Iff.rfl ?_
  cases (s.lane l).seq.active <;> simp

/-- The profile store `slot` serves a use of it: the armed slots are VALID and have a leader, the named ones are VALID. -/
def UseFits (slot : SlotId → Slot) (u : LaneSettings × Option (RequestKind × RequestEntry)) : Prop :=
  (∀ i ∈ u.1.armed, (slot i).isValid = true ∧ (slot i).profile.leaderMark ≠ 0) ∧
    ∀ k e, u.2 = some (k, e) → ∀ i ∈ namedSlots k e, (slot i).isValid = true

/-- A lane that arms nothing and has no active request uses nothing. -/
theorem useFits_nothing {slot : SlotId → Slot} {settings : LaneSettings} (h : settings.armed = []) :
    UseFits slot (settings, none) := by
  simp [UseFits, h]

theorem UseFits.without_request {slot : SlotId → Slot} {u : LaneSettings × Option (RequestKind × RequestEntry)}
    (h : UseFits slot u) : UseFits slot (u.1, none) := ⟨h.1, nofun⟩

/-- The slot a LOAD_PROFILE reads into is LOADING. -/
def ReadLoads (s : State) : Prop :=
  ∀ tag i, s.admin.state = .executing tag (.profileRead i) → s.slot i = .loading

theorem slotsHeld_iff {s : State} : SlotsHeld s ↔ (∀ l, UseFits s.slot (s.use l)) ∧ ReadLoads s := by
  unfold SlotsHeld
  rw [← and_assoc]
  refine and_congr ?_ Iff.rfl
  simp only [State.inUse_iff]
  constructor
  · rintro ⟨hvalid, hleader⟩ l
    refine ⟨fun i hi => ⟨hvalid i ⟨l, .inl hi⟩, hleader l i hi⟩, fun k e hr i hi => ?_⟩
    obtain ⟨r, hact, hke⟩ := Option.map_eq_some_iff.mp hr
    obtain ⟨rfl, rfl⟩ := Prod.mk.inj hke
    exact hvalid i ⟨l, .inr ⟨r, hact, hi⟩⟩
  · intro h
    refine ⟨?_, fun l i hi => ((h l).1 i hi).2⟩
    rintro i ⟨l, hi | ⟨r, hr, hi⟩⟩
    · exact ((h l).1 i hi).1
    · exact (h l).2 r.kind r.entry (by simp [State.use, LaneState.use, hr]) i hi

/-- The store is as it was, every lane's use of it still fits, and no new read of a record is under way. -/
theorem SlotsHeld.transfer {s t : State} (h : SlotsHeld s) (hslots : t.slots = s.slots)
    (hlanes : ∀ l, UseFits s.slot (t.use l))
    (hadmin : ∀ tag i, t.admin.state = .executing tag (.profileRead i) →
      s.admin.state = .executing tag (.profileRead i)) : SlotsHeld t := by
  have hslot : t.slot = s.slot := by
    funext i
    exact congrArg (fun v : Vector Slot 16 => v[i.val]) hslots
  refine slotsHeld_iff.mpr ⟨fun l => ?_, fun tag i hread => ?_⟩
  · rw [hslot]; exact hlanes l
  · rw [hslot]; exact (slotsHeld_iff.mp h).2 tag i (hadmin tag i hread)

/-- The lanes and the store are as they were, and no new read of a record is under way. -/
theorem SlotsHeld.of_lanes {s t : State} (h : SlotsHeld s) (hslots : t.slots = s.slots) (hlanes : t.lanes = s.lanes)
    (hadmin : ∀ tag i, t.admin.state = .executing tag (.profileRead i) →
      s.admin.state = .executing tag (.profileRead i)) : SlotsHeld t := by
  refine h.transfer hslots (fun l => ?_) hadmin
  have hlane : t.lane l = s.lane l := congrArg (fun v : Vector LaneState 4 => v[l.val]) hlanes
  unfold State.use
  rw [hlane]
  exact (slotsHeld_iff.mp h).1 l

/-- One lane has changed, and its use of the store fits. -/
theorem SlotsHeld.of_onlyLane {l : Lane} {s t : State} (h : SlotsHeld s) (hlane : OnlyLane l s t)
    (hfits : UseFits s.slot (t.use l)) : SlotsHeld t := by
  refine h.transfer hlane.slots (fun l' => ?_) fun tag i hread => by rwa [hlane.admin] at hread
  by_cases hl : l' = l
  · rw [hl]; exact hfits
  · unfold State.use
    rw [hlane.lanes l' hl]
    exact (slotsHeld_iff.mp h).1 l'

/-- One lane has changed, and it uses what it used. -/
theorem SlotsHeld.of_use {l : Lane} {s t : State} (h : SlotsHeld s) (hlane : OnlyLane l s t)
    (huse : t.use l = s.use l) : SlotsHeld t :=
  h.of_onlyLane hlane (huse ▸ (slotsHeld_iff.mp h).1 l)

/-- A slot that is not in use may take any state, whatever read of a record is under way being a read into it. -/
theorem SlotsHeld.of_setSlot {s t : State} {i : SlotId} {x : Slot} (h : SlotsHeld s) (hfree : ¬ InUse s i)
    (hslots : t.slots = (s.setSlot i x).slots) (hlanes : t.lanes = s.lanes)
    (hadmin : ∀ tag j, t.admin.state = .executing tag (.profileRead j) → j = i ∧ x = .loading) : SlotsHeld t := by
  have hslot : ∀ j, t.slot j = if j = i then x else s.slot j := by
    intro j
    rw [← State.setSlot_slot]
    exact congrArg (fun v : Vector Slot 16 => v[j.val]) hslots
  have huse : ∀ j, InUse t j → InUse s j := by
    rintro j ⟨l, hl⟩
    have hlane : t.lane l = s.lane l := congrArg (fun v : Vector LaneState 4 => v[l.val]) hlanes
    exact ⟨l, hlane ▸ hl⟩
  have hkept : ∀ j, InUse t j → t.slot j = s.slot j := by
    intro j hj
    rw [hslot, if_neg]
    rintro rfl
    exact hfree (huse j hj)
  obtain ⟨hvalid, hleader, -⟩ := h
  refine ⟨fun j hj => ?_, fun l j hj => ?_, fun tag j hread => ?_⟩
  · rw [State.inUse_iff] at hj
    rw [hkept j hj]
    exact hvalid j (State.inUse_iff.mpr (huse j hj))
  · have hlane : t.lane l = s.lane l := congrArg (fun v : Vector LaneState 4 => v[l.val]) hlanes
    have : t.profile j = s.profile j := congrArg Slot.profile (hkept j ⟨l, .inl hj⟩)
    rw [this]
    exact hleader l j (hlane ▸ hj)
  · obtain ⟨rfl, rfl⟩ := hadmin tag j hread
    rw [hslot, if_pos rfl]

/-! ## Operations outside the lanes -/

theorem slotsHeld_chooseEvent {s : State} (h : SlotsHeld s) : SlotsHeld (chooseEvent s) :=
  h.of_lanes (by simp) (by simp) (by simp)

theorem slotsHeld_setBus {s : State} (h : SlotsHeld s) (c : BusClient) (x : BusSlot) : SlotsHeld (s.setBus c x) :=
  h.of_lanes rfl rfl fun _ _ hread => hread

theorem slotsHeld_askBus {s : State} (h : SlotsHeld s) (c : BusClient) (t : Transaction) :
    SlotsHeld (askBus c t s) := by
  rcases askBus_cases c t s with ⟨-, hask⟩ | ⟨-, hask⟩ <;> rw [hask]
  · exact slotsHeld_setBus h c _
  · exact h

theorem slotsHeld_setEq {s : State} (h : SlotsHeld s) (q : EqId) (x : EventQueue) : SlotsHeld (s.setEq q x) :=
  h.of_lanes rfl rfl fun _ _ hread => hread

theorem slotsHeld_setEntry {s : State} (h : SlotsHeld s) (i : EntryId) (x : MatchEntry) :
    SlotsHeld (s.setEntry i x) :=
  h.of_lanes rfl rfl fun _ _ hread => hread

/-- The command unit changes its state, and not to a read of a profile record. -/
theorem slotsHeld_setAdmin {s : State} {x : AdminState} (h : SlotsHeld s)
    (hx : ∀ tag i, x ≠ .executing tag (.profileRead i)) : SlotsHeld (setAdmin x s) :=
  h.of_lanes rfl rfl fun tag i hread => absurd hread (hx tag i)

theorem slotsHeld_postDone {s : State} (h : SlotsHeld s) (c : Code) (tag : Half) (p : Byte) (d : Nat) :
    SlotsHeld (postDone c tag p d s) :=
  slotsHeld_setAdmin h fun _ _ => by simp

theorem slotsHeld_adminFetchCheck {s : State} (h : SlotsHeld s) : SlotsHeld (adminFetchCheck s) := by
  unfold adminFetchCheck
  split
  · split
    · exact h
    · exact slotsHeld_askBus (slotsHeld_setAdmin h fun _ _ => by simp) _ _
  · exact h

theorem slotsHeld_reachOff {s : State} (h : SlotsHeld s) : SlotsHeld (reachOff s) :=
  h.of_lanes rfl rfl fun _ _ hread => hread

theorem slotsHeld_settleStopping {s : State} (h : SlotsHeld s) : SlotsHeld (settleStopping s) := by
  unfold settleStopping
  split
  · exact h
  · exact slotsHeld_reachOff h

/-- The end of a transaction keeps the slots, when what its client makes of it does. -/
theorem slotsHeld_endTransaction {s : State} {c : BusClient} {wanted : Purpose → Bool}
    {act : Transaction → State → State} (h : SlotsHeld s)
    (hact : ∀ t, SlotsHeld (s.setBus c .idle) → SlotsHeld (act t (s.setBus c .idle))) :
    SlotsHeld (endTransaction c wanted act s) := by
  have hfree := slotsHeld_setBus h c .idle
  rcases endTransaction_cases c wanted act s with ⟨t, -, -, ⟨-, hend⟩ | ⟨-, hend⟩⟩ | hend <;> rw [hend]
  · exact hact t hfree
  · exact slotsHeld_settleStopping hfree
  · exact h

/-! ## Operations of a lane -/

/-- An operation of one lane that keeps its use, and the event writer's choice after it. -/
theorem slotsHeld_lane {s t : State} {l : Lane} (h : SlotsHeld s) (hlane : OnlyLane l s t)
    (huse : t.use l = s.use l) : SlotsHeld (chooseEvent t) :=
  slotsHeld_chooseEvent (h.of_use hlane huse)

/-- The activation claim makes a request active only when every slot it names is VALID (R3, R89). -/
theorem slotsHeld_activate {s : State} (h : SlotsHeld s) (l : Lane) (e : RequestEntry) (kind : RequestKind) :
    SlotsHeld (activate l e kind s) := by
  refine h.of_onlyLane (onlyLane_activate l e kind s) ?_
  have hold : UseFits s.slot (s.use l) := (slotsHeld_iff.mp h).1 l
  unfold activate
  split
  · rename_i hvalid
    have huse : (s.modSeq l fun q => { q with taken := none, active := some (activeOf s kind e) }).use l =
        ((s.lane l).settings, some (kind, e)) := by
      simp [State.use, LaneState.use, activeOf]
    have hfits : UseFits s.slot ((s.lane l).settings, some (kind, e)) := by
      refine ⟨hold.1, fun k e' hk i hi => ?_⟩
      obtain ⟨rfl, rfl⟩ := Prod.mk.inj (Option.some.inj hk)
      exact List.all_eq_true.mp hvalid i hi
    dsimp only
    split
    · rwa [finish_use, huse]
    · split
      · rwa [askBus_use, State.use_modSeq _ (by simp), huse]
      · rwa [firstGap_use, huse]
  · rwa [answer_use]

theorem slotsHeld_activationTaken {s : State} (h : SlotsHeld s) (l : Lane) : SlotsHeld (activationTaken l s) := by
  unfold activationTaken
  split
  · exact h
  · split
    · exact h
    · exact slotsHeld_activate h l _ _

/-- A lane settings' armed list has passed R149 (2) when every member is VALID and has a leader. -/
theorem firstUnarmable_eq_none {s : State} {n : Nat} {armed : List SlotId} (h : firstUnarmable s n armed = none) :
    ∀ i ∈ armed, (s.slot i).isValid = true ∧ (s.profile i).leaderMark ≠ 0 := by
  induction armed generalizing n with
  | nil => simp
  | cons x rest ih =>
    unfold firstUnarmable at h
    split at h
    · rename_i hx
      simp only [Bool.and_eq_true, bne_iff_ne] at hx
      exact List.forall_mem_cons.mpr ⟨hx, ih h⟩
    · cases h

/-- An applied SET_LANE replaces the lane's settings and leaves its request alone (R151). -/
theorem applySettings_use (l : Lane) (new : LaneSettings) (g : GateCommand) (s : State) :
    (applySettings l new g s).use l = (new, (s.use l).2) := by
  have hquiet : (quietDecoder l (settlePressAndGate l new g s)).use l = s.use l := by
    unfold quietDecoder settlePressAndGate
    dsimp only
    split <;> simp
  have hset : ∀ u : State, u.use l = s.use l →
      (u.modLane l fun x => { x with settings := new }).use l = (new, (s.use l).2) := by
    intro u hu
    rw [← hu]
    simp [State.use, LaneState.use]
  unfold applySettings
  dsimp only
  split <;> simp [hset _ hquiet]

theorem slotsHeld_setLaneChecked {s : State} (h : SlotsHeld s) (tag : Half) (a : LaneArgs) :
    SlotsHeld (setLaneChecked tag a s) := by
  unfold setLaneChecked
  dsimp only
  split
  · exact slotsHeld_postDone h _ _ _ _
  · split
    · exact slotsHeld_postDone h _ _ _ _
    · rename_i harm
      split
      · exact slotsHeld_postDone h _ _ _ _
      · refine slotsHeld_postDone (h.of_onlyLane (onlyLane_applySettings _ _ _ s) ?_) _ _ _ _
        rw [applySettings_use]
        exact ⟨firstUnarmable_eq_none harm, ((slotsHeld_iff.mp h).1 _).2⟩

/-- The capture write of a lane reset is discarded at the bus port alone (R58). -/
theorem discardCaptureWrite_cases (l : Lane) (s : State) :
    discardCaptureWrite l s = s ∨ ∃ x, discardCaptureWrite l s = s.setBus (.captureWriter l) x := by
  unfold discardCaptureWrite
  dsimp only
  split
  · exact .inl rfl
  · exact .inr ⟨_, rfl⟩
  · exact .inr ⟨_, rfl⟩

/-- The reset step of RESET_LANE leaves the lane with nothing armed (R154). -/
theorem slotsHeld_resetLane {s : State} (h : SlotsHeld s) (l : Lane) : SlotsHeld (resetLane l s) := by
  have hbus : ∃ b, (if (s.lane l).capture.isSome then discardCaptureWrite l s else s) = { s with bus := b } := by
    split
    · rcases discardCaptureWrite_cases l s with hd | ⟨x, hd⟩
      · exact ⟨s.bus, hd⟩
      · exact ⟨_, hd⟩
    · exact ⟨s.bus, rfl⟩
  obtain ⟨b, hbus⟩ := hbus
  have hold := (slotsHeld_iff.mp h).1
  unfold resetLane
  dsimp only
  rw [hbus]
  refine h.transfer rfl (fun l' => ?_) fun _ _ hread => hread
  by_cases hl : l' = l
  · subst hl
    rw [State.use_setLane]
    exact ⟨nofun, (hold l').2⟩
  · unfold State.use
    rw [State.setLane_lane_ne _ _ hl]
    exact hold l'

/-! ## The commands of the command unit -/

theorem slotsHeld_modSeq {s : State} {f : Sequencer → Sequencer} (h : SlotsHeld s) (l : Lane)
    (hf : ∀ q, (f q).active = q.active) : SlotsHeld (s.modSeq l f) :=
  h.of_use (onlyLane_modSeq l f s) (State.use_modSeq s hf)

theorem slotsHeld_beginFetch {s : State} (h : SlotsHeld s) (l : Lane) : SlotsHeld (beginFetch l s) :=
  h.of_use (onlyLane_beginFetch l s) (beginFetch_use l s)

theorem slotsHeld_fetchCheck {s : State} (h : SlotsHeld s) (l : Lane) : SlotsHeld (fetchCheck l s) :=
  h.of_use (onlyLane_fetchCheck l s) (fetchCheck_use l s)

theorem slotsHeld_reportAbort {s : State} (h : SlotsHeld s) (l : Lane) (n : Nat) : SlotsHeld (reportAbort l n s) := by
  have hseq : SlotsHeld (s.modSeq l fun q => { q with abort := none }) := slotsHeld_modSeq h l fun _ => rfl
  unfold reportAbort
  dsimp only
  split
  · refine slotsHeld_postDone ?_ _ _ _ _
    split
    · exact slotsHeld_resetLane hseq l
    · exact hseq
  all_goals exact hseq

theorem slotsHeld_abortLane {s : State} (h : SlotsHeld s) (tag : Half) (l : Lane) (flush reset : Bool) :
    SlotsHeld (abortLane tag l flush reset s) := by
  have hexec : SlotsHeld (setAdmin (.executing tag (.laneAbort l reset)) s) := slotsHeld_setAdmin h fun _ _ => by simp
  have hcaught := hexec.of_use (onlyLane_abortInHand l flush _) (abortInHand_use l flush _)
  unfold abortLane
  dsimp only
  generalize abortInHand l flush (setAdmin (.executing tag (.laneAbort l reset)) s) = caught at hcaught ⊢
  generalize (if flush then _ else 0) = entries
  split
  · exact slotsHeld_reportAbort hcaught l 0
  · have hnoted := slotsHeld_modSeq hcaught l
      (f := fun q => { q with abort := some { remaining := entries, aborted := caught.2 } }) fun _ => rfl
    split
    · exact slotsHeld_beginFetch hnoted l
    all_goals exact hnoted

/-- The event writer is through with a completion: the request is no longer active (R99). -/
theorem slotsHeld_completionWritten {s : State} (h : SlotsHeld s) (l : Lane) : SlotsHeld (completionWritten l s) := by
  have hidle : SlotsHeld (s.modSeq l fun q => { q with state := .idle, active := none, completion := none }) := by
    refine h.of_onlyLane (onlyLane_modSeq l _ s) ?_
    have hfits := ((slotsHeld_iff.mp h).1 l).without_request
    simpa [State.use, LaneState.use] using hfits
  unfold completionWritten
  dsimp only
  split
  · exact slotsHeld_fetchCheck hidle l
  · split
    · exact slotsHeld_fetchCheck (slotsHeld_reportAbort hidle l _) l
    · exact slotsHeld_beginFetch hidle l

/-- The end of an event kept for the event writer changes an outbox and the capture buffers (R64, R155). -/
theorem slotsHeld_releaseHeld {s : State} (h : SlotsHeld s) (ev : RxEvent) : SlotsHeld (releaseHeld ev s) := by
  unfold releaseHeld
  split
  · exact h.of_lanes rfl rfl fun _ _ hread => hread
  · exact h
  · exact h

theorem slotsHeld_modOutbox {s : State} (h : SlotsHeld s) (l : Lane) (o : Outbox) :
    SlotsHeld (s.modLane l fun x => { x with outbox := o }) :=
  h.of_use (onlyLane_modLane l _ s) (State.use_modLane s fun _ => ⟨rfl, rfl⟩)

theorem slotsHeld_leaveOutbox {s : State} (h : SlotsHeld s) (l : Lane) : SlotsHeld (leaveOutbox l s) := by
  unfold leaveOutbox
  dsimp only
  split
  · exact slotsHeld_releaseHeld (slotsHeld_modOutbox h l _) _
  · split
    · exact h
    · exact slotsHeld_releaseHeld (slotsHeld_modOutbox h l _) _

theorem slotsHeld_dropSettling {s : State} (h : SlotsHeld s) (l : Lane) : SlotsHeld (dropSettling l s) := by
  unfold dropSettling
  dsimp only
  split
  · exact h
  · have hdropped := slotsHeld_modOutbox h l { (s.lane l).outbox with settling := none }
    split
    · exact hdropped.of_use (onlyLane_returnBuffer l _ _) rfl
    · exact hdropped
    · exact hdropped

theorem slotsHeld_writerServed {s : State} (h : SlotsHeld s) (w : Writer) : SlotsHeld (writerServed w s) := by
  cases w with
  | commandUnit => exact slotsHeld_adminFetchCheck (slotsHeld_setAdmin h fun _ _ => by simp)
  | sequencer l => exact slotsHeld_completionWritten h l
  | outbox l => exact slotsHeld_leaveOutbox h l

theorem slotsHeld_writeOver {s : State} (h : SlotsHeld s) (w : Writer) : SlotsHeld (writeOver w s) :=
  h.of_lanes rfl rfl fun _ _ hread => hread

theorem slotsHeld_eventWritten {s : State} (h : SlotsHeld s) : SlotsHeld (eventWritten s) := by
  refine slotsHeld_endTransaction h fun t hfree => ?_
  split
  · exact hfree
  · exact slotsHeld_chooseEvent (slotsHeld_writerServed (slotsHeld_writeOver (slotsHeld_setEq hfree _ _) _) _)

theorem slotsHeld_eventFailed {s : State} (h : SlotsHeld s) : SlotsHeld (eventFailed s) := by
  refine slotsHeld_endTransaction h fun t hfree => ?_
  dsimp only
  split
  · exact hfree
  · rename_i w q _
    have hover := slotsHeld_writeOver (slotsHeld_setEq hfree q ((s.setBus .eventWriter .idle).eq q).failed) w
    refine slotsHeld_chooseEvent ?_
    cases w with
    | commandUnit => exact hover
    | sequencer l => exact hover
    | outbox l => exact slotsHeld_dropSettling hover l

/-! ## The profile store's own commands -/

/-- A slot that nothing uses becomes LOADING for a read into it. -/
theorem slotsHeld_loading {s : State} {i : SlotId} (h : SlotsHeld s) (hfree : ¬ InUse s i) (tag : Half) :
    SlotsHeld (setAdmin (.executing tag (.profileRead i)) (s.setSlot i .loading)) := by
  refine h.of_setSlot (x := .loading) hfree rfl rfl fun tag' j hread => ?_
  cases hread
  exact ⟨rfl, rfl⟩

/-- LOAD_PROFILE makes the slot LOADING only when nothing uses it (R2, R16). -/
theorem slotsHeld_beginLoad {s : State} (h : SlotsHeld s) (tag : Half) (slot : Byte) (address : Word) :
    SlotsHeld (beginLoad tag slot address s) := by
  unfold beginLoad
  dsimp only
  split
  · exact slotsHeld_postDone h _ _ _ _
  · rename_i hfree
    exact slotsHeld_askBus (slotsHeld_loading h (fun hin => hfree (State.inUse_iff.mpr hin)) tag) _ _

/-- A slot that nothing uses changes as its command is answered. -/
theorem slotsHeld_postDone_setSlot {s : State} {i : SlotId} (h : SlotsHeld s) (hfree : ¬ InUse s i) (x : Slot)
    (c : Code) (tag : Half) (p : Byte) (d : Nat) : SlotsHeld (postDone c tag p d (s.setSlot i x)) :=
  h.of_setSlot (x := x) hfree rfl rfl fun _ _ hread => by simp [postDone] at hread

theorem slotsHeld_clearSlot {s : State} (h : SlotsHeld s) (tag : Half) (slot : Byte) :
    SlotsHeld (clearSlot tag slot s) := by
  unfold clearSlot
  dsimp only
  split
  · exact slotsHeld_postDone h _ _ _ _
  · rename_i hfree
    exact slotsHeld_postDone_setSlot h (fun hin => hfree (State.inUse_iff.mpr hin)) _ _ _ _ _

/-- A slot that a record is read into is LOADING, so nothing uses it when the read ends (R1, R2). -/
theorem slotsHeld_endLoad {s : State} (h : SlotsHeld s) {tag : Half} {i : SlotId}
    (hread : s.admin.state = .executing tag (.profileRead i)) (record : Option ProfileRecord) :
    SlotsHeld (endLoad tag i record s) := by
  have hfree : ¬ InUse s i := by
    intro hin
    have hvalid := h.1 i (State.inUse_iff.mpr hin)
    rw [h.2.2 tag i hread] at hvalid
    cases hvalid
  unfold endLoad
  dsimp only
  split
  · exact slotsHeld_postDone_setSlot h hfree _ _ _ _ _
  · split <;> exact slotsHeld_postDone_setSlot h hfree _ _ _ _ _

/-! ## Taken commands -/

theorem slotsHeld_takeCommand {s : State} {act : State → State} (h : SlotsHeld s)
    (hact : ∀ u, SlotsHeld u → SlotsHeld (act u)) : SlotsHeld (takeCommand act s) :=
  slotsHeld_endTransaction h fun _ hfree =>
    slotsHeld_chooseEvent (hact _ (hfree.of_lanes rfl rfl fun _ _ hread => hread))

/-- A taken command with range checks. -/
theorem slotsHeld_takeChecked {s : State} {act : State → State} (h : SlotsHeld s) (tag : Half)
    (checks : List (Nat × Bool)) (hact : ∀ u, SlotsHeld u → SlotsHeld (act u)) :
    SlotsHeld (takeCommand (checked tag checks act) s) := by
  refine slotsHeld_takeCommand h fun u hu => ?_
  unfold checked
  split
  · exact slotsHeld_postDone hu _ _ _ _
  · exact hact u hu

theorem slotsHeld_decided {s : State} {claim : Option State} (h : SlotsHeld s) (tag : Half) (refusal : Code)
    (hclaim : ∀ t, claim = some t → SlotsHeld t) : SlotsHeld (decided tag refusal claim s) := by
  unfold decided
  split
  · exact slotsHeld_postDone (hclaim _ rfl) _ _ _ _
  · exact slotsHeld_postDone h _ _ _ _

theorem slotsHeld_claimEventQueue {s t : State} {q : EqId} {a : EventQueueArgs} (h : SlotsHeld s)
    (hclaim : claimEventQueue q a s = some t) : SlotsHeld t := by
  unfold claimEventQueue at hclaim
  dsimp only at hclaim
  rw [Option.ite_none_right_eq_some] at hclaim
  obtain ⟨-, hset⟩ := hclaim
  split at hset <;> rw [← Option.some.inj hset] <;> exact slotsHeld_setEq h q _

theorem slotsHeld_postBuffer {s t : State} {address : Word} (h : SlotsHeld s)
    (hpost : postBuffer address s = some t) : SlotsHeld t := by
  unfold postBuffer at hpost
  rw [Option.ite_none_right_eq_some] at hpost
  rw [← Option.some.inj hpost.2]
  exact h.of_lanes rfl rfl fun _ _ hread => hread

theorem slotsHeld_clearCounters {s : State} (h : SlotsHeld s) (source : CounterSource) :
    SlotsHeld (clearCounters source s) := by
  unfold clearCounters
  cases source with
  | lane l => exact h.of_use (onlyLane_modLane l _ s) (State.use_modLane s fun _ => ⟨rfl, rfl⟩)
  | hits first count => exact h.of_lanes rfl rfl fun _ _ hread => hread

theorem slotsHeld_endCounters {s : State} (h : SlotsHeld s) (tag : Half) (source : CounterSource)
    (clear busError : Bool) : SlotsHeld (endCounters tag source clear busError s) := by
  unfold endCounters
  split
  · exact slotsHeld_postDone h _ _ _ _
  · refine slotsHeld_postDone ?_ _ _ _ _
    split
    · exact slotsHeld_clearCounters h source
    · exact h

/-! ## Ends of a lane's transactions -/

theorem slotsHeld_captureWriteEnds {s : State} (h : SlotsHeld s) (l : Lane) (busError : Bool) :
    SlotsHeld (captureWriteEnds l busError s) := by
  refine slotsHeld_endTransaction h fun t hfree => ?_
  split
  · exact hfree
  · split
    · exact slotsHeld_askBus hfree _ _
    · exact hfree.of_use ((onlyLane_modLane l _ _).trans (onlyLane_enterOutbox l _ _)) (by simp)

theorem slotsHeld_entryReadEnds {s : State} (h : SlotsHeld s) (l : Lane) (e : RequestEntry) :
    SlotsHeld (entryReadEnds l e s) :=
  slotsHeld_endTransaction h fun _ hfree => hfree.of_use (onlyLane_takeEntry l e _) (takeEntry_use l e _)

theorem slotsHeld_entryReadFails {s : State} (h : SlotsHeld s) (l : Lane) : SlotsHeld (entryReadFails l s) :=
  slotsHeld_endTransaction h fun _ hfree =>
    hfree.of_use ((onlyLane_modLane l _ _).trans (onlyLane_complete l _ _)) (by simp)

theorem slotsHeld_listReadEnds {s : State} (h : SlotsHeld s) (l : Lane) (result : Option (List RawPair)) :
    SlotsHeld (listReadEnds l result s) := by
  unfold listReadEnds
  dsimp only
  split
  · rename_i r pairs _ hact
    split
    · exact slotsHeld_endTransaction h fun _ hfree =>
        hfree.of_use (onlyLane_listArrives l r pairs _) (listArrives_use (by simpa using hact) pairs)
    · exact h
  · exact slotsHeld_endTransaction h fun _ hfree => hfree.of_use (onlyLane_finish l _ _ _ _) (finish_use l _ _ _ _)
  · exact slotsHeld_endTransaction h fun _ hfree => slotsHeld_askBus hfree _ _
  · exact slotsHeld_endTransaction h fun _ hfree => hfree

/-! ## Engine and registers -/

theorem slotsHeld_acknowledge {s : State} (h : SlotsHeld s) (word : Word) : SlotsHeld (acknowledge word s) := by
  unfold acknowledge
  dsimp only
  split
  · split
    · exact h.of_lanes rfl rfl fun _ _ hread => hread
    · exact slotsHeld_chooseEvent (slotsHeld_setEq h _ _)
  · exact h.of_lanes rfl rfl fun _ _ hread => hread

theorem slotsHeld_writeStatus {s : State} (h : SlotsHeld s) (word : Word) : SlotsHeld (writeStatus word s) :=
  h.of_lanes rfl rfl fun _ _ hread => hread

theorem slotsHeld_writeAdminBase {s : State} (h : SlotsHeld s) (word : Word) : SlotsHeld (writeAdminBase word s) := by
  unfold writeAdminBase
  split
  · exact h.of_lanes rfl rfl fun _ _ hread => hread
  · exact h
  · exact h

theorem slotsHeld_noticeAdminQueue {s t : State} {tail : Nat} (h : SlotsHeld s)
    (hnotice : noticeAdminQueue tail s = some t) : SlotsHeld t := by
  unfold noticeAdminQueue at hnotice
  split at hnotice
  · cases hnotice
  · rw [Option.ite_none_right_eq_some] at hnotice
    rw [← Option.some.inj hnotice.2]
    exact slotsHeld_adminFetchCheck (h.of_lanes rfl rfl fun _ _ hread => hread)

theorem slotsHeld_writeSubmit {s : State} (h : SlotsHeld s) (word : Word) : SlotsHeld (writeSubmit word s) := by
  unfold writeSubmit
  dsimp only
  split
  · cases hn : noticeRequestQueue _ _ s with
    | none => exact h.of_lanes rfl rfl fun _ _ hread => hread
    | some t => exact h.of_use (onlyLane_noticeRequestQueue hn) (noticeRequestQueue_use hn)
  · split
    · cases hn : noticeAdminQueue _ s with
      | none => exact h.of_lanes rfl rfl fun _ _ hread => hread
      | some t => exact slotsHeld_noticeAdminQueue h hn
    · exact h.of_lanes rfl rfl fun _ _ hread => hread

/-- Lanes that arm nothing and have no active request hold no slot. -/
theorem slotsHeld_of_nothing {s : State} (hlanes : ∀ l, s.use l = (LaneSettings.reset, none))
    (hadmin : s.admin.state = .stopped) : SlotsHeld s :=
  slotsHeld_iff.mpr ⟨fun l => hlanes l ▸ useFits_nothing rfl, fun tag i hread => by rw [hadmin] at hread; cases hread⟩

theorem slotsHeld_resetEngine (s : State) : SlotsHeld (resetEngine s) :=
  slotsHeld_settleStopping (slotsHeld_of_nothing (fun l => by simp [State.use, resetBlocks, LaneState.use,
    LaneState.engineReset, LaneState.reset, Sequencer.reset]) rfl)

theorem slotsHeld_powerOn (s : State) : SlotsHeld (powerOn s) :=
  slotsHeld_of_nothing (fun l => by simp [State.use, powerOn, LaneState.use,
    LaneState.engineReset, LaneState.reset, Sequencer.reset]) rfl

theorem Slot.stopped_of_isValid {x : Slot} (h : x.isValid = true) : x.stopped = x := by
  cases x with
  | valid p => rfl
  | invalid => cases h
  | loading => cases h

@[simp] theorem stopBlocks_slot (s : State) (i : SlotId) : (stopBlocks s).slot i = (s.slot i).stopped := by
  simp [stopBlocks]

@[simp] theorem stopBlocks_use (s : State) (l : Lane) : (stopBlocks s).use l = ((s.use l).1, none) := by
  simp [State.use, LaneState.use, stopBlocks, LaneState.stopped, LaneState.reset, Sequencer.reset]

/-- An engine stop ends every load and every request; what the lanes arm stays VALID (R20, R169). -/
theorem slotsHeld_stopEngine {s : State} (h : SlotsHeld s) : SlotsHeld (stopEngine s) := by
  refine slotsHeld_settleStopping (slotsHeld_iff.mpr ⟨fun l => ?_, fun tag i hread => by cases hread⟩)
  rw [stopBlocks_use]
  refine ⟨fun i hi => ?_, fun k e hk => by cases hk⟩
  have hfits := ((slotsHeld_iff.mp h).1 l).1 i hi
  rwa [stopBlocks_slot, Slot.stopped_of_isValid hfits.1]

theorem LaneState.started_use (x : LaneState) : x.started.use = (x.use.1, none) := by
  unfold LaneState.started
  dsimp only
  split <;> rfl

/-- ENABLE starts every lane with its settings and without a request (R168). -/
theorem slotsHeld_enterRunning {s : State} (h : SlotsHeld s) : SlotsHeld (enterRunning s) := by
  refine h.transfer rfl (fun l => ?_) fun tag i hread => by cases hread
  have huse : (enterRunning s).use l = ((s.use l).1, none) := by
    simp [State.use, enterRunning, LaneState.started_use]
  rw [huse]
  exact ((slotsHeld_iff.mp h).1 l).without_request

theorem slotsHeld_enableEngine {s : State} (h : SlotsHeld s) : SlotsHeld (enableEngine s) := by
  unfold enableEngine
  split
  · exact slotsHeld_enterRunning h
  · exact h.of_lanes rfl rfl fun _ _ hread => hread

theorem slotsHeld_writeControl {s : State} (h : SlotsHeld s) (word : Word) : SlotsHeld (writeControl word s) := by
  unfold writeControl
  split
  · exact slotsHeld_resetEngine s
  · have hirq : SlotsHeld { s with irqEnable := word.getLsbD 2 } := h.of_lanes rfl rfl fun _ _ hread => hread
    dsimp only
    split
    · exact slotsHeld_enableEngine hirq
    · exact slotsHeld_stopEngine hirq
    all_goals exact hirq

theorem slotsHeld_hostWrite {s : State} (h : SlotsHeld s) (offset width : Nat) (word : Word) :
    SlotsHeld (hostWrite offset width word s) := by
  unfold hostWrite
  split
  · split
    · exact slotsHeld_writeControl h word
    · exact slotsHeld_writeStatus h word
    · exact slotsHeld_writeAdminBase h word
    · exact slotsHeld_writeSubmit h word
    · exact slotsHeld_acknowledge h word
    · exact h
  · exact h

theorem slotsHeld_startTransaction {s : State} (h : SlotsHeld s) : SlotsHeld (startTransaction s) := by
  rcases startTransaction_cases s with ⟨i, t, -, -, hstart⟩ | hstart <;> rw [hstart]
  · exact h.of_lanes rfl rfl fun _ _ hread => hread
  · exact h

/-! ## Steps -/

/-- Every command keeps the slots in use. -/
theorem slotsHeld_exec {s t : State} {c : Instr} (h : SlotsHeld s) (hexec : exec c s = .next t) : SlotsHeld t := by
  cases c <;> cases hexec
  case powerOnReset => exact slotsHeld_powerOn s
  case engineReset word => exact slotsHeld_writeControl h word
  case enable word => exact slotsHeld_writeControl h word
  case engineStop word => exact slotsHeld_writeControl h word
  case irqEnableWrite word => exact slotsHeld_writeControl h word
  case submitErrorClear word => exact slotsHeld_writeStatus h word
  case ackErrorClear word => exact slotsHeld_writeStatus h word
  case adminFaultClear word => exact slotsHeld_writeStatus h word
  case adminBaseWrite word => exact slotsHeld_writeAdminBase h word
  case submit word => exact slotsHeld_writeSubmit h word
  case eventAck word => exact slotsHeld_acknowledge h word
  case clearNotice word => exact slotsHeld_acknowledge h word
  case registerWriteIgnored offset width word => exact slotsHeld_hostWrite h offset width word
  case busGrant =>
    split
    · exact slotsHeld_startTransaction h
    · exact h
    · exact h
  case stoppingTransactionEnd client busError =>
    split
    · exact slotsHeld_endTransaction h fun _ hfree => hfree
    · exact h
    · exact h
  case adminReadError =>
    refine slotsHeld_endTransaction h fun _ hfree => slotsHeld_setAdmin ?_ fun _ _ => by simp
    exact hfree.of_lanes rfl rfl fun _ _ hread => hread
  case unknownCommand command tag =>
    split
    · exact h
    · exact slotsHeld_takeCommand h fun u hu => slotsHeld_postDone hu _ _ _ _
  case nop tag => exact slotsHeld_takeCommand h fun u hu => slotsHeld_postDone hu _ _ _ _
  case setEventQueue tag a =>
    exact slotsHeld_takeChecked h _ _ fun u hu =>
      slotsHeld_decided hu _ _ fun t hclaim => slotsHeld_claimEventQueue hu hclaim
  case setRequestQueue tag a =>
    exact slotsHeld_takeChecked h _ _ fun u hu =>
      slotsHeld_decided hu _ _ fun t hclaim =>
        hu.of_use (onlyLane_claimRequestQueue hclaim) (claimRequestQueue_use hclaim)
  case loadProfile tag slot address =>
    exact slotsHeld_takeChecked h _ _ fun u hu => slotsHeld_beginLoad hu tag slot address
  case profileRecordReadEnd record =>
    refine slotsHeld_endTransaction h fun _ hfree => ?_
    split
    · rename_i hread
      exact slotsHeld_chooseEvent (slotsHeld_endLoad hfree hread record)
    · exact hfree
  case clearProfile tag slot => exact slotsHeld_takeChecked h _ _ fun u hu => slotsHeld_clearSlot hu tag slot
  case loadFilter tag a =>
    exact slotsHeld_takeChecked h _ _ fun u hu => slotsHeld_postDone (slotsHeld_setEntry hu _ _) _ _ _ _
  case setLane tag a => exact slotsHeld_takeChecked h _ _ fun u hu => slotsHeld_setLaneChecked hu tag a
  case abortLane tag l scope => exact slotsHeld_takeChecked h _ _ fun u hu => slotsHeld_abortLane hu _ _ _ _
  case resetLane tag l => exact slotsHeld_takeChecked h _ _ fun u hu => slotsHeld_abortLane hu _ _ _ _
  case release tag l holdTag =>
    exact slotsHeld_takeChecked h _ _ fun u hu =>
      slotsHeld_decided hu _ _ fun t hclaim => hu.of_use (onlyLane_releaseHold hclaim) (releaseHold_use hclaim)
  case postCaptureBuffer tag address =>
    exact slotsHeld_takeChecked h _ _ fun u hu => slotsHeld_decided hu _ _ fun t hpost => slotsHeld_postBuffer hu hpost
  case readCounters tag a =>
    exact slotsHeld_takeChecked h _ _ fun u hu =>
      slotsHeld_askBus (slotsHeld_setAdmin hu fun _ _ => by simp) _ _
  case counterBlockWriteEnd busError =>
    refine slotsHeld_endTransaction h fun _ hfree => ?_
    split
    · exact slotsHeld_chooseEvent (slotsHeld_endCounters hfree _ _ _ _)
    · exact hfree
  case pinEdge l high => exact slotsHeld_lane h (onlyLane_takePinEdge l high s) (takePinEdge_use l high s)
  case transitionConfirm l => exact slotsHeld_lane h (onlyLane_confirmHeld l s) (confirmHeld_use l s)
  case thresholdCrossing l => exact slotsHeld_lane h (onlyLane_crossingsNow l s) (crossingsNow_use l s)
  case captureWriteEnd l busError => exact slotsHeld_chooseEvent (slotsHeld_captureWriteEnds h l busError)
  case repeatWindowExpiry l =>
    split
    · exact h
    · split
      · exact slotsHeld_lane h (onlyLane_closePress l s) (closePress_use l s)
      · exact h
  case gateWindowExpiry l =>
    split
    · exact h.of_use (onlyLane_modLane l _ s) (State.use_modLane s fun _ => ⟨rfl, rfl⟩)
    · exact h
  case echoGuardExpiry l =>
    split
    · exact slotsHeld_lane h (onlyLane_withdrawBlind l s) (withdrawBlind_use l s)
    · exact h
  case requestEntryReadEnd l e => exact slotsHeld_chooseEvent (slotsHeld_entryReadEnds h l e)
  case requestReadError l => exact slotsHeld_chooseEvent (slotsHeld_entryReadFails h l)
  case activation l => exact slotsHeld_chooseEvent (slotsHeld_activationTaken h l)
  case pairListReadEnd l pairs => exact slotsHeld_chooseEvent (slotsHeld_listReadEnds h l pairs)
  case spacingTimerExpiry l => exact h.of_use (onlyLane_spacingExpires l s) (spacingExpires_use l s)
  case transmissionEnd l => exact slotsHeld_lane h (onlyLane_transmissionEnds l s) (transmissionEnds_use l s)
  case deferTimerExpiry l => exact slotsHeld_lane h (onlyLane_deferExpires l s) (deferExpires_use l s)
  case holdLimitExpiry l => exact slotsHeld_lane h (onlyLane_holdLimitExpires l s) (holdLimitExpires_use l s)
  case replyWindowExpiry l => exact slotsHeld_lane h (onlyLane_replyExpires l s) (replyExpires_use l s)
  case eventWriteEnd => exact slotsHeld_eventWritten h
  case eventWriteError => exact slotsHeld_eventFailed h
  case holdoffExpiry q =>
    split
    · exact slotsHeld_setEq h q _
    · exact h

/-- A step is a command on a state that differs in the queue of commands alone, or the time base's count. -/
theorem step_cases {s t : State} (h : step s = .next t) :
    (∃ c rest, exec c { s with pending := rest } = .next t) ∨ t = tick s := by
  unfold step at h
  split at h
  · exact .inl ⟨_, _, h⟩
  · split at h
    · exact .inl ⟨_, s.pending, h⟩
    · cases h
      exact .inr rfl

/-- Settles O58: `SlotsHeld` through every command and through the time base's count. -/
theorem slotsKeptByEveryStep : Obligations.SlotsKeptByEveryStep := by
  intro s t h hstep
  rcases step_cases hstep with ⟨c, rest, hexec⟩ | rfl
  · exact slotsHeld_exec (s := { s with pending := rest }) (h.of_lanes rfl rfl fun _ _ hread => hread) hexec
  · unfold tick
    split
    · exact h.of_lanes rfl rfl fun _ _ hread => hread
    · exact h
    · exact h

end Sys2Proof.Machine
end

section
/-! The commands of the profile store (R16, R17, R21): what a taken admin command acts on, and the ends of a load. -/

namespace Sys2Proof.Machine

open Sys2Proof.Claims

/-! ## Taken admin commands -/

/-- A command whose entry's read ends acts on the state with the entry taken, and the event writer chooses (R140). -/
theorem takeCommand_of_entryRead {s : State} {q : AdminQueue} (h : EntryRead s q) (act : State → State) :
    takeCommand act s = chooseEvent (act (taken s q)) := by
  obtain ⟨hrun, hqueue, t, hbus, hpurpose⟩ := h
  have hadvance : advanceAdmin (s.setBus .commandUnit .idle) = taken s q := by
    simp [advanceAdmin, taken, hqueue]
  unfold takeCommand
  rw [endTransaction_running hrun hbus (by simp [hpurpose]), hadvance]

/-- Commands whose fields are in range go on. -/
theorem checked_of_pass {checks : List (Nat × Bool)} (h : firstBad checks = none) (tag : Half) (act : State → State) :
    checked tag checks act = act := by
  funext s
  unfold checked
  rw [h]

theorem postDone_eq_answered (c : Code) (tag : Half) (p : Byte) (d : Nat) (s : State) :
    postDone c tag p d s = answered s c tag p d := rfl

/-- The taking of an entry changes no lane, so no slot's use. -/
theorem inUse_taken (s : State) (q : AdminQueue) (i : SlotId) : (taken s q).inUse i = true ↔ InUse s i :=
  State.inUse_iff

theorem within_iff {lo hi x : Nat} : within lo hi x = true ↔ lo ≤ x ∧ x ≤ hi := by simp [within]

theorem toSlot_eq {slot : Byte} {i : SlotId} (h : slot.toNat = i.val) : toSlot slot = i :=
  Fin.ext (by simp only [toSlot, h]; exact Nat.mod_eq_of_lt i.isLt)

theorem slot_within {slot : Byte} {i : SlotId} (h : slot.toNat = i.val) : within 0 15 slot.toNat = true :=
  within_iff.mpr ⟨Nat.zero_le _, by have := i.isLt; omega⟩

theorem loadProfileChecks_pass {slot : Byte} {address : Word} {i : SlotId} (hs : slot.toNat = i.val)
    (ha : address.toNat % 4 = 0) : firstBad (loadProfileChecks slot address) = none := by
  simp [loadProfileChecks, firstBad, slot_within hs, aligned, ha]

theorem clearProfileChecks_pass {slot : Byte} {i : SlotId} (hs : slot.toNat = i.val) :
    firstBad (clearProfileChecks slot) = none := by
  simp [clearProfileChecks, firstBad, slot_within hs]

/-! ## LOAD_PROFILE and CLEAR_PROFILE -/

theorem exec_loadProfile {s : State} {q : AdminQueue} {slot : Byte} {address : Word} {i : SlotId}
    (h : EntryRead s q) (hs : slot.toNat = i.val) (ha : address.toNat % 4 = 0) (tag : Half) :
    exec (.loadProfile tag slot address) s = .next (chooseEvent (beginLoad tag slot address (taken s q))) := by
  rw [show exec (.loadProfile tag slot address) s =
    .next (takeCommand (checked tag (loadProfileChecks slot address) (beginLoad tag slot address)) s) from rfl,
    checked_of_pass (loadProfileChecks_pass hs ha), takeCommand_of_entryRead h]

theorem exec_clearProfile {s : State} {q : AdminQueue} {slot : Byte} {i : SlotId}
    (h : EntryRead s q) (hs : slot.toNat = i.val) (tag : Half) :
    exec (.clearProfile tag slot) s = .next (chooseEvent (clearSlot tag slot (taken s q))) := by
  rw [show exec (.clearProfile tag slot) s =
    .next (takeCommand (checked tag (clearProfileChecks slot) (clearSlot tag slot)) s) from rfl,
    checked_of_pass (clearProfileChecks_pass hs), takeCommand_of_entryRead h]

/-- Settles O21: both commands act on the taken state, by whether the slot is in use. -/
theorem profileCommandsClaimSlot : Obligations.ProfileCommandsClaimSlot := by
  intro tag slot address s q i hread hs ha t
  have hused := inUse_taken s q i
  have hbus : t.busSlot .commandUnit = .idle := State.setBus_busSlot_self s .commandUnit .idle
  rw [exec_loadProfile hread hs ha, exec_clearProfile hread hs]
  unfold beginLoad clearSlot
  dsimp only
  rw [toSlot_eq hs]
  constructor
  · intro hin
    rw [if_pos (hused.mpr hin), if_pos (hused.mpr hin)]
    exact ⟨rfl, rfl⟩
  · intro hfree
    rw [if_neg (mt hused.mp hfree), if_neg (mt hused.mp hfree),
      askBus_of_idle (s := setAdmin (.executing tag (.profileRead i)) (t.setSlot i .loading)) hbus]
    exact ⟨rfl, rfl⟩

/-! ## The end of the record's read -/

theorem exec_profileRecordReadEnd {s : State} {tag : Half} {i : SlotId}
    (h : Outstanding s .commandUnit .profileRecord) (hx : s.admin.state = .executing tag (.profileRead i))
    (record : Option ProfileRecord) :
    exec (.profileRecordReadEnd record) s =
      .next (chooseEvent (endLoad tag i record (s.setBus .commandUnit .idle))) := by
  obtain ⟨hrun, t, hbus, hpurpose⟩ := h
  show execProfileRecordReadEnd record s = _
  unfold execProfileRecordReadEnd
  rw [endTransaction_running hrun hbus (by simp [hpurpose])]
  simp [hx]

/-- A code in range names its encoding (R176). -/
theorem encodingOf_getElem {code : Byte} (h : code.toNat ≤ 2) :
    [Encoding.pdist, .pwidth, .biphase][code.toNat]? = some (encodingOf code) := by
  unfold encodingOf
  obtain hc | hc | hc : code.toNat = 0 ∨ code.toNat = 1 ∨ code.toNat = 2 := by omega
  all_goals rw [hc]; rfl

theorem polarityOf_getElem {code : Byte} (h : code.toNat ≤ 1) :
    [Polarity.markFirstIsOne, .markFirstIsZero][code.toNat]? = some (polarityOf code) := by
  unfold polarityOf
  obtain hc | hc : code.toNat = 0 ∨ code.toNat = 1 := by omega
  all_goals rw [hc]; rfl

theorem isOn_getElem {code : Byte} (h : code.toNat ≤ 1) : [false, true][code.toNat]? = some (isOn code) := by
  unfold isOn
  obtain hc | hc : code.toNat = 0 ∨ code.toNat = 1 := by omega
  all_goals rw [hc]; rfl

/-- An encoding code in range and its encoding say the same. -/
theorem encodingOf_iff {code : Byte} (h : code.toNat ≤ 2) :
    (encodingOf code = .pdist ↔ code.toNat = 0) ∧ (encodingOf code = .pwidth ↔ code.toNat = 1) ∧
      (encodingOf code = .biphase ↔ code.toNat = 2) := by
  unfold encodingOf
  obtain hc | hc | hc : code.toNat = 0 ∨ code.toNat = 1 ∨ code.toNat = 2 := by omega
  all_goals rw [hc]; decide

/-- A record that passes its checks has every field in its range. -/
theorem recordRanges_of_pass {r : ProfileRecord} (h : recordFault r = none) : ∀ c ∈ recordRanges r, c.2 = true := by
  unfold recordFault at h
  split at h
  · cases h
  · rename_i hranges
    exact firstBad_eq_none.mp hranges

/-- The enumerated fields of a record that passes lie in their ranges (R4). -/
theorem codes_of_pass {r : ProfileRecord} (h : recordFault r = none) :
    r.encoding.toNat ≤ 2 ∧ (r.encoding.toNat = 2 → r.biphasePolarity.toNat ≤ 1) ∧ r.collapseIdentical.toNat ≤ 1 ∧
      r.learn.toNat ≤ 1 := by
  have hranges := recordRanges_of_pass h
  simp only [recordRanges, List.forall_mem_cons, within_iff] at hranges
  obtain ⟨⟨-, hencoding⟩, hpolarity, -, -, -, -, -, -, -, -, -, -, -, -, ⟨-, hcollapse⟩, -, ⟨-, hlearn⟩, -⟩ := hranges
  refine ⟨hencoding, fun hb => ?_, hcollapse, hlearn⟩
  simpa [hb, within] using hpolarity

/-- Settles O22: the three ends of the read, and the profile of a record that passes. -/
theorem profileRecordReadEnds : Obligations.ProfileRecordReadEnds := by
  intro tag i s hread hx t slot
  refine ⟨exec_profileRecordReadEnd hread hx none, fun r => ⟨fun n hn => ?_, fun hpass => ?_⟩⟩
  · rw [exec_profileRecordReadEnd hread hx]
    simp only [endLoad, hn, postDone_eq_answered]
    rfl
  · obtain ⟨hencoding, hpolarity, hcollapse, hlearn⟩ := codes_of_pass hpass
    have hend : exec (.profileRecordReadEnd (some r)) s =
        .next (chooseEvent (answered (t.setSlot i (.valid (profileOf r))) .ok tag slot 0)) := by
      rw [exec_profileRecordReadEnd hread hx]
      simp only [endLoad, hpass, postDone_eq_answered]
      rfl
    exact ⟨hend, encodingOf_getElem hencoding,
      fun hb => polarityOf_getElem (hpolarity ((encodingOf_iff hencoding).2.2.mp hb)),
      rfl, rfl, rfl, rfl, rfl, rfl, rfl, rfl, rfl, rfl, rfl, rfl, rfl, rfl, rfl, rfl, rfl, isOn_getElem hcollapse, rfl,
      isOn_getElem hlearn, rfl, rfl⟩

end Sys2Proof.Machine
end

section
/-! The checks of a profile record (R17 to R19): the conditions of the manual against the model's list of checks. -/

namespace Sys2Proof.Machine

open Sys2Proof.Claims

/-! ## Conditions in order -/

/-- A condition that a check decides; those after it may assume it. -/
theorem firstOut_cons {n : Nat} {P : Prop} {b : Bool} {rest : List (Nat × Prop)} {checks : List (Nat × Bool)}
    (hb : P ↔ b = true) (hrest : P → FirstOut rest (firstBad checks)) :
    FirstOut ((n, P) :: rest) (firstBad ((n, b) :: checks)) := by
  cases b with
  | true => exact ⟨hrest, fun hP => absurd (hb.mpr rfl) hP⟩
  | false => exact ⟨fun hP => by simp at hb; exact absurd hP hb, fun _ => rfl⟩

/-- A condition that holds decides nothing. -/
theorem firstOut_skip {n : Nat} {P : Prop} {rest : List (Nat × Prop)} {out : Option Nat} (hP : P)
    (hrest : FirstOut rest out) : FirstOut ((n, P) :: rest) out :=
  ⟨fun _ => hrest, fun h => absurd hP h⟩

theorem firstBad_append (xs ys : List (Nat × Bool)) : firstBad (xs ++ ys) = (firstBad xs).or (firstBad ys) := by
  induction xs with
  | nil => simp [firstBad]
  | cons c rest ih => cases hc : c.2 <;> simp [firstBad, hc, ih]

/-- The four stages of R17 are one list of checks. -/
theorem recordFault_eq_firstBad (r : ProfileRecord) :
    recordFault r = firstBad (recordRanges r ++ profileChecks (profileOf r)) := by
  rw [firstBad_append]
  unfold recordFault
  split <;> rename_i h <;> simp [h]

/-! ## Windows -/

/-- Two windows overlap unless one lies wholly below the other (R18). -/
theorem windowsOverlap_eq_false {x y tolerance : Nat} :
    windowsOverlap x y tolerance = false ↔
      x + x * tolerance / 100 < y - y * tolerance / 100 ∨ y + y * tolerance / 100 < x - x * tolerance / 100 := by
  unfold windowsOverlap halfWidth
  dsimp only
  rw [decide_eq_false_iff_not, Nat.not_le]
  rcases Nat.le_total x y with h | h
  · rw [Nat.min_eq_left h, Nat.max_eq_right h]
    omega
  · rw [Nat.min_eq_right h, Nat.max_eq_left h]
    omega

/-- The spaces of R19, by what the profile has. -/
theorem innerSpaces_all (p : Profile) (f : Nat → Bool) :
    (innerSpaces p).all f = true ↔
      (p.leaderMark ≠ 0 → f p.leaderSpace = true) ∧
      (p.encoding = .pdist → f p.space0 = true ∧ f p.space1 = true) ∧ (p.encoding = .pwidth → f p.space0 = true) ∧
      (p.encoding = .biphase → f (2 * p.mark0) = true ∧ (p.leaderMark ≠ 0 → f (p.leaderSpace + p.mark0) = true)) ∧
      (p.repeatMark ≠ 0 → f p.repeatSpace = true) := by
  have hif : ∀ n x : Nat, (if n = 0 then ([] : List Nat) else [x]).all f = true ↔ (n ≠ 0 → f x = true) := by
    intro n x
    split <;> simp [*]
  unfold innerSpaces
  rw [List.all_append, List.all_append, Bool.and_eq_true, Bool.and_eq_true, hif, hif, and_assoc]
  refine and_congr_right fun _ => ?_
  cases p.encoding with
  | pdist => simp
  | pwidth => simp
  | biphase =>
    rw [List.all_cons, Bool.and_eq_true, hif]
    simp

/-! ## The encodings of a record -/

theorem profileOf_encoding {r : ProfileRecord} (h : r.encoding.toNat ≤ 2) :
    ((profileOf r).encoding = .pdist ↔ r.encoding.toNat = 0) ∧
      ((profileOf r).encoding = .pwidth ↔ r.encoding.toNat = 1) ∧
      ((profileOf r).encoding = .biphase ↔ r.encoding.toNat = 2) :=
  encodingOf_iff h

/-- The windows of R18, for a record whose encoding is in range. -/
theorem firstOut_separations {p : Profile} {rest : List (Nat × Prop)} {checks : List (Nat × Bool)}
    {apart : Nat → Nat → Prop} (hapart : ∀ a b, apart a b ↔ windowsOverlap a b p.tolerance = false)
    (hrest : FirstOut rest (firstBad checks)) :
    FirstOut
      ((10, p.encoding = .pdist → apart p.space0 p.space1) :: (9, p.encoding = .pwidth → apart p.mark0 p.mark1) ::
        (11, p.encoding = .pwidth → p.trailerMark ≠ 0 → apart p.trailerMark p.mark0 ∧ apart p.trailerMark p.mark1) ::
        (7, p.encoding = .biphase → apart p.mark0 (2 * p.mark0)) :: rest)
      (firstBad (separations p ++ checks)) := by
  unfold separations
  cases p.encoding with
  | pdist =>
    refine firstOut_cons (by simp [hapart]) fun _ => ?_
    exact firstOut_skip nofun (firstOut_skip nofun (firstOut_skip nofun hrest))
  | pwidth =>
    refine firstOut_skip nofun (firstOut_cons (by simp [hapart]) fun _ => firstOut_cons ?_ fun _ => ?_)
    · by_cases ht : p.trailerMark = 0 <;> simp [hapart, ht]
    · exact firstOut_skip nofun hrest
  | biphase =>
    refine firstOut_skip nofun (firstOut_skip nofun (firstOut_skip nofun ?_))
    exact firstOut_cons (by simp [hapart]) fun _ => hrest

/-- The BIPHASE leader space holds at least the half-bit (R17). -/
theorem leaderCheck_iff (p : Profile) :
    (p.encoding != .biphase || p.leaderMark == 0 || decide (p.mark0 ≤ p.leaderSpace)) = true ↔
      (p.encoding = .biphase → p.leaderMark ≠ 0 → p.mark0 ≤ p.leaderSpace) := by
  simp [Decidable.imp_iff_not_or, or_assoc]

/-- Two fields that are 0 together (R4). -/
theorem zero_together_iff {m n : Nat} : (m = 0 ↔ n = 0) ↔ ((m == 0) == (n == 0)) = true := by
  rw [beq_iff_eq, Bool.eq_iff_iff, beq_iff_eq, beq_iff_eq]

/-- Settles O23: each condition of the manual against the check of the same place. -/
theorem profileRecordChecks : Obligations.ProfileRecordChecks := by
  intro r
  dsimp only
  rw [recordFault_eq_firstBad]
  refine firstOut_cons (by rw [within_iff]; omega) fun hencoding => ?_
  obtain ⟨hpd, hpw, hbp⟩ := profileOf_encoding (r := r) (by omega)
  refine firstOut_cons (by simp [within, Decidable.imp_iff_not_or]) fun _ => ?_
  refine firstOut_cons zero_together_iff fun _ => ?_
  refine firstOut_cons (by simp [Decidable.imp_iff_not_or, Nat.one_le_iff_ne_zero]) fun _ => ?_
  refine firstOut_cons (by simp [Nat.one_le_iff_ne_zero]) fun _ => ?_
  refine firstOut_cons (by simp [Decidable.imp_iff_not_or, Nat.one_le_iff_ne_zero]) fun _ => ?_
  refine firstOut_cons ?_ fun _ => ?_
  · by_cases hp : r.encoding.toNat = 0 <;> simp [hp, Decidable.imp_iff_not_or, Nat.one_le_iff_ne_zero]
  refine firstOut_cons (by simp [Decidable.imp_iff_not_or, Nat.one_le_iff_ne_zero]) fun _ => ?_
  refine firstOut_cons ?_ fun _ => ?_
  · by_cases hp : r.encoding.toNat = 0 <;> simp [hp, Decidable.imp_iff_not_or, Nat.one_le_iff_ne_zero]
  refine firstOut_cons within_iff.symm fun _ => ?_
  refine firstOut_cons within_iff.symm fun _ => ?_
  refine firstOut_cons (by simp [Nat.one_le_iff_ne_zero]) fun _ => ?_
  refine firstOut_cons zero_together_iff fun _ => ?_
  refine firstOut_cons within_iff.symm fun _ => ?_
  refine firstOut_cons (by simp [within]) fun _ => ?_
  refine firstOut_cons within_iff.symm fun _ => ?_
  refine firstOut_cons (by simp [within]) fun hlearn => ?_
  have hlearns : r.learn.toNat = 1 ↔ r.learn.toNat ≠ 0 := by omega
  refine firstOut_cons (by simp [hlearns, within, Decidable.imp_iff_not_or]) fun _ => ?_
  refine firstOut_cons (by simp [hlearns, within, Decidable.imp_iff_not_or]) fun _ => ?_
  simp only [← hpd, ← hpw, ← hbp]
  refine firstOut_cons ?_ fun _ => ?_
  · exact (leaderCheck_iff (profileOf r)).symm
  refine firstOut_separations (p := profileOf r)
    (apart := fun a b => a + a * r.tolerance.toNat / 100 < b - b * r.tolerance.toNat / 100 ∨
      b + b * r.tolerance.toNat / 100 < a - a * r.tolerance.toNat / 100)
    (fun a b => windowsOverlap_eq_false.symm) (firstOut_cons ?_ fun _ => rfl)
  rw [innerSpaces_all]
  simp only [decide_eq_true_eq]
  exact Iff.rfl

end Sys2Proof.Machine
end

section
/-! The output pin through a transmission (R28, R29): phases, carrier cycles, and the pin idle outside it. -/

namespace Sys2Proof.Machine

open Sys2Proof.Claims

/-! ## Phases -/

/-- How long phases last, in ticks of 1/12 µs. -/
def phasesLength (phases : List (Bool × Nat)) : Nat := (phases.map Prod.snd).sum

@[simp] theorem phasesLength_nil : phasesLength [] = 0 := rfl

@[simp] theorem phasesLength_cons (x : Bool × Nat) (rest : List (Bool × Nat)) :
    phasesLength (x :: rest) = x.2 + phasesLength rest := by
  simp [phasesLength]

@[simp] theorem phasesLength_append (xs ys : List (Bool × Nat)) :
    phasesLength (xs ++ ys) = phasesLength xs + phasesLength ys := by
  simp [phasesLength]

/-- Within the first phases they decide, and after them those that follow. -/
theorem activeAt_append (xs ys : List (Bool × Nat)) (tick : Nat) :
    activeAt (xs ++ ys) tick =
      if tick < phasesLength xs then activeAt xs tick else activeAt ys (tick - phasesLength xs) := by
  induction xs generalizing tick with
  | nil => simp
  | cons x rest ih =>
    obtain ⟨level, n⟩ := x
    simp only [List.cons_append, activeAt, phasesLength_cons]
    by_cases hn : tick < n
    · rw [if_pos hn, if_pos hn, if_pos (by omega)]
    · rw [if_neg hn, if_neg hn, ih]
      by_cases hr : tick - n < phasesLength rest
      · rw [if_pos hr, if_pos (by omega)]
      · rw [if_neg hr, if_neg (by omega), Nat.sub_sub]

theorem activeAt_of_length_le {phases : List (Bool × Nat)} {tick : Nat} (h : phasesLength phases ≤ tick) :
    activeAt phases tick = false := by
  induction phases generalizing tick with
  | nil => rfl
  | cons x rest ih =>
    rw [phasesLength_cons] at h
    unfold activeAt
    rw [if_neg (by omega), ih (by omega)]

/-! ## Carrier cycles -/

/-- Whole carrier cycles: `high` ticks active, `low` idle, counted from the first (R28). -/
theorem activeAt_cycles (high low q : Nat) (rest : List (Bool × Nat)) (tick : Nat) :
    activeAt ((List.replicate q [(true, high), (false, low)]).flatten ++ rest) tick =
      if tick < q * (high + low) then decide (tick % (high + low) < high)
      else activeAt rest (tick - q * (high + low)) := by
  induction q generalizing tick with
  | zero => simp
  | succ q ih =>
    rw [List.replicate_succ, List.flatten_cons, List.append_assoc, activeAt_append, ih, Nat.succ_mul]
    simp only [phasesLength_cons, phasesLength_nil, Nat.add_zero]
    by_cases hfirst : tick < high + low
    · rw [if_pos hfirst, if_pos (by omega), Nat.mod_eq_of_lt hfirst]
      by_cases hhigh : tick < high
      · simp [activeAt, hhigh]
      · simp [activeAt, hhigh]
    · have hmod : (tick - (high + low)) % (high + low) = tick % (high + low) :=
        (Nat.mod_eq_sub_mod (by omega)).symm
      rw [if_neg hfirst, hmod]
      by_cases hq : tick - (high + low) < q * (high + low)
      · rw [if_pos hq, if_pos (by omega)]
      · rw [if_neg hq, if_neg (by omega), Nat.sub_sub, Nat.add_comm (high + low)]

theorem phasesLength_cycles (high low q : Nat) :
    phasesLength (List.replicate q [(true, high), (false, low)]).flatten = q * (high + low) := by
  induction q with
  | zero => simp
  | succ q ih => simp [List.replicate_succ, ih, Nat.succ_mul]; omega

/-- The cut cycle that ends a modulated mark. -/
def cutCycle (high r : Nat) : List (Bool × Nat) :=
  if r = 0 then [] else if r ≤ high then [(true, r)] else [(true, high), (false, r - high)]

theorem phasesLength_cutCycle (high r : Nat) : phasesLength (cutCycle high r) = r := by
  unfold cutCycle
  split
  · simp [*]
  · split <;> simp
    omega

theorem activeAt_cutCycle {high r tick : Nat} (h : tick < r) :
    activeAt (cutCycle high r) tick = decide (tick < high) := by
  unfold cutCycle
  rw [if_neg (by omega)]
  split
  · simp [activeAt, h]; omega
  · by_cases hh : tick < high
    · simp [activeAt, hh]
    · simp [activeAt, hh]

theorem carrierPhases_eq (high low d : Nat) :
    carrierPhases high low d =
      (List.replicate (12 * d / (high + low)) [(true, high), (false, low)]).flatten ++
        cutCycle high (12 * d % (high + low)) := by
  unfold carrierPhases cutCycle
  have hr : 12 * d - 12 * d / (high + low) * (high + low) = 12 * d % (high + low) := by
    rw [Nat.mod_def, Nat.mul_comm (high + low)]
  simp only [hr]

theorem phasesLength_carrierPhases (high low d : Nat) : phasesLength (carrierPhases high low d) = 12 * d := by
  rw [carrierPhases_eq, phasesLength_append, phasesLength_cycles, phasesLength_cutCycle]
  exact Nat.div_add_mod' (12 * d) (high + low)

/-- A modulated mark at each of its ticks: active in the first `high` ticks of each cycle (R28). -/
theorem activeAt_carrierPhases {high low d tick : Nat} (hcycle : 0 < high + low) (h : tick < 12 * d) :
    activeAt (carrierPhases high low d) tick = decide (tick % (high + low) < high) := by
  have hsplit := Nat.div_add_mod' (12 * d) (high + low)
  have hcut := Nat.mod_lt (12 * d) hcycle
  rw [carrierPhases_eq, activeAt_cycles]
  split
  · rfl
  · rename_i hge
    rw [activeAt_cutCycle (by omega), ← Nat.sub_mul_mod (k := 12 * d / (high + low)) (by rw [Nat.mul_comm]; omega),
      Nat.mul_comm (high + low), Nat.mod_eq_of_lt (by omega)]

/-! ## A transmission -/

/-- The phases of one interval (R28). -/
def intervalPhases (t : Transmission) (x : Interval) : List (Bool × Nat) :=
  if !x.mark then [(false, 12 * x.length)]
  else if t.carrierHigh = 0 ∧ t.carrierLow = 0 then [(true, 12 * x.length)]
  else carrierPhases t.carrierHigh t.carrierLow x.length

theorem outputPhases_eq (t : Transmission) : outputPhases t = t.intervals.flatMap (intervalPhases t) := rfl

theorem phasesLength_intervalPhases (t : Transmission) (x : Interval) :
    phasesLength (intervalPhases t x) = 12 * x.length := by
  unfold intervalPhases
  split
  · simp
  · split
    · simp
    · exact phasesLength_carrierPhases _ _ _

theorem phasesLength_intervals (t : Transmission) (xs : List Interval) :
    phasesLength (xs.flatMap (intervalPhases t)) = 12 * (xs.map Interval.length).sum := by
  induction xs with
  | nil => rfl
  | cons x rest ih => simp [phasesLength_intervalPhases, ih, Nat.mul_add]

/-- Intervals are driven back to back: the one a tick falls into decides. -/
theorem activeAt_outputPhases {t : Transmission} {before after : List Interval} {x : Interval} {tick first : Nat}
    (h : t.intervals = before ++ x :: after) (hfirst : 12 * (before.map Interval.length).sum = first)
    (hge : first ≤ tick) (hlt : tick < first + 12 * x.length) :
    activeAt (outputPhases t) tick = activeAt (intervalPhases t x) (tick - first) := by
  rw [outputPhases_eq, h, List.flatMap_append, List.flatMap_cons, activeAt_append, phasesLength_intervals, hfirst,
    if_neg (by omega), activeAt_append, phasesLength_intervalPhases, if_pos (by omega)]

/-! ## The pin -/

theorem outputPin_of_tx {s : State} {l : Lane} {t : Transmission} (h : (s.lane l).tx = some t) (sub : Nat) :
    s.outputPin l sub =
      if activeAt (outputPhases t) (12 * (s.clock - t.start) + sub) then (s.lane l).settings.outputHigh
      else !(s.lane l).settings.outputHigh := by
  unfold State.outputPin
  simp [h]

theorem outputPin_of_no_tx {s : State} {l : Lane} (h : (s.lane l).tx = none) (sub : Nat) :
    s.outputPin l sub = !(s.lane l).settings.outputHigh := by
  unfold State.outputPin
  simp [h]

@[simp] theorem settleStopping_lane (s : State) (l : Lane) : (settleStopping s).lane l = s.lane l := by
  unfold settleStopping
  split <;> rfl

@[simp] theorem stopEngine_lane (s : State) (l : Lane) : (stopEngine s).lane l = (s.lane l).stopped := by
  simp [stopEngine, stopBlocks]

@[simp] theorem resetEngine_lane (s : State) (l : Lane) : (resetEngine s).lane l = (s.lane l).engineReset := by
  simp [resetEngine, resetBlocks]

theorem writeControl_reset {word : Word} (h : word.getLsbD 1 = true) (s : State) :
    writeControl word s = resetEngine s := by
  unfold writeControl
  rw [if_pos h]

theorem writeControl_stop {word : Word} {s : State} (h0 : word.getLsbD 0 = false) (h1 : word.getLsbD 1 = false)
    (hrun : s.engine = .running) : writeControl word s = stopEngine { s with irqEnable := word.getLsbD 2 } := by
  unfold writeControl
  rw [if_neg (by rw [h1]; exact Bool.false_ne_true)]
  simp only [hrun, h0]

/-- Settles O46: the pin from the phase a tick falls into, and idle where no transmission is on the lane. -/
theorem outputDrivesTransmission : Obligations.OutputDrivesTransmission := by
  intro s l sub x active
  refine ⟨fun h => outputPin_of_no_tx h sub, ?_, ?_, ?_⟩
  · intro t ht tick
    constructor
    · intro hend
      rw [outputPin_of_tx ht, activeAt_of_length_le (by rwa [outputPhases_eq, phasesLength_intervals])]
      rfl
    intro before i after hi first hge hlt
    have htick : tick - first < 12 * i.length := (Nat.sub_lt_iff_lt_add' hge).mpr hlt
    have hpin : s.outputPin l sub = if activeAt (intervalPhases t i) (tick - first) then active else !active := by
      rw [outputPin_of_tx ht, activeAt_outputPhases hi rfl hge hlt]
    rw [hpin]
    refine ⟨fun hmark => ?_, fun hmark hhigh hlow => ?_, fun hmark hcycle => ?_⟩
    · simp [intervalPhases, hmark, activeAt]
    · simp [intervalPhases, hmark, activeAt, hhigh, hlow, htick]
    · have hmod : ¬ (t.carrierHigh = 0 ∧ t.carrierLow = 0) := by omega
      simp [intervalPhases, hmark, hmod, activeAt_carrierPhases hcycle htick]
  · intro word u h0 h1 hrun hexec
    have hu : u = writeControl word s := by cases hexec; rfl
    rw [hu, writeControl_stop h0 h1 hrun, outputPin_of_no_tx (by rw [stopEngine_lane]; rfl), stopEngine_lane]
    rfl
  · intro word u h1 hexec
    have hu : u = writeControl word s := by cases hexec; rfl
    rw [hu, writeControl_reset h1, outputPin_of_no_tx (by rw [resetEngine_lane]; rfl), resetEngine_lane]
    rfl

end Sys2Proof.Machine
end

section
/-! How the decoder judges an interval (R13 to R15, R41 to R48): scales, candidates, the tests of the first space, and
what each encoding makes of a mark, a space and a silence. -/

namespace Sys2Proof.Machine

open Sys2Proof.Claims

/-! ## Windows and scales -/

/-- The manual's window, a lower and an upper end, is the model's. -/
theorem fits_eq_inScaled (p : Profile) (scale d nominal : Nat) : fits p scale d nominal = inScaled p scale d nominal := by
  unfold fits inScaled inWindow scaled halfWidth
  rw [← Bool.decide_and, decide_eq_decide]
  omega

@[simp] theorem scaled_256 (n : Nat) : scaled n 256 = n := Nat.mul_div_cancel n (by decide)

theorem fits_256 (p : Profile) (d nominal : Nat) : fits p 256 d nominal = inWindow d nominal p.tolerance := by
  rw [fits_eq_inScaled, inScaled, scaled_256]

theorem markScale_of_learn {p : Profile} (h : p.learn = true) (m n : Nat) :
    markScale p m n =
      if p.learnMin * 256 ≤ m * 256 / n * 100 ∧ m * 256 / n * 100 ≤ p.learnMax * 256 then some (m * 256 / n)
      else none := by
  unfold markScale
  rw [if_pos h]

theorem markScale_of_not_learn {p : Profile} (h : p.learn = false) (m n : Nat) :
    markScale p m n = if fits p 256 m n then some 256 else none := by
  unfold markScale
  rw [if_neg (by simp [h]), fits_256]

/-! ## Candidates -/

/-- A profile is a candidate when it passes the leader test or the repeat test (R41). -/
theorem candidateOf_eq_some {p : Profile} {i : SlotId} {m : Nat} {c : Candidate} :
    candidateOf p i m = some c ↔
      c.slot = i ∧ (c.leader.isSome ∨ c.repeated.isSome) ∧ c.leader = markScale p m p.leaderMark ∧
        c.repeated = if p.repeatMark = 0 then none else markScale p m p.repeatMark := by
  have hrep : (if p.hasRepeat then markScale p m p.repeatMark else none) =
      if p.repeatMark = 0 then none else markScale p m p.repeatMark := by
    unfold Profile.hasRepeat
    by_cases h : p.repeatMark = 0 <;> simp [h]
  unfold candidateOf
  rw [hrep]
  generalize markScale p m p.leaderMark = leader
  generalize (if p.repeatMark = 0 then none else markScale p m p.repeatMark) = repeated
  dsimp only
  split
  · rename_i hnone
    simp only [Bool.and_eq_true, Option.isNone_iff_eq_none] at hnone
    refine ⟨nofun, fun ⟨_, hsome, hl, hr⟩ => ?_⟩
    simp [hl, hr, hnone] at hsome
  · rename_i hsome
    constructor
    · intro h
      cases h
      refine ⟨rfl, ?_, rfl, rfl⟩
      simpa [Option.isSome_iff_ne_none, Decidable.or_iff_not_imp_left] using hsome
    · rintro ⟨rfl, -, rfl, rfl⟩
      rfl

theorem filterMap_map_sublist {α β : Type} {f : α → Option β} {g : β → α} (h : ∀ a b, f a = some b → g b = a)
    (xs : List α) : ((xs.filterMap f).map g).Sublist xs := by
  induction xs with
  | nil => exact .slnil
  | cons x rest ih =>
    cases hx : f x with
    | none => rw [List.filterMap_cons_none hx]; exact ih.cons x
    | some b => rw [List.filterMap_cons_some hx, List.map_cons, h x b hx]; exact ih.cons_cons x

theorem candidates_slots_sublist (s : State) (l : Lane) (m : Nat) :
    ((s.candidates l m).map Candidate.slot).Sublist (s.lane l).settings.armed :=
  filterMap_map_sublist (fun _ _ h => (candidateOf_eq_some.mp h).1) _

theorem mem_candidates {s : State} {l : Lane} {m : Nat} {c : Candidate} :
    c ∈ s.candidates l m ↔
      c.slot ∈ (s.lane l).settings.armed ∧ (c.leader.isSome ∨ c.repeated.isSome) ∧
        c.leader = markScale (s.profile c.slot) m (s.profile c.slot).leaderMark ∧
        c.repeated = if (s.profile c.slot).repeatMark = 0 then none
          else markScale (s.profile c.slot) m (s.profile c.slot).repeatMark := by
  unfold State.candidates
  rw [List.mem_filterMap]
  constructor
  · rintro ⟨i, hi, hc⟩
    obtain ⟨rfl, htests⟩ := candidateOf_eq_some.mp hc
    exact ⟨hi, htests⟩
  · rintro ⟨hi, htests⟩
    exact ⟨c.slot, hi, candidateOf_eq_some.mpr ⟨rfl, htests⟩⟩

/-! ## The first space -/

theorem leaderSpaceMatch_some {p : Profile} {c : Candidate} {k : Nat} (h : c.leader = some k) (d : Nat) :
    leaderSpaceMatch p c d =
      if fits p k d p.leaderSpace then some (k, none)
      else if p.encoding = .biphase ∧ fits p k d (p.leaderSpace + p.mark0) = true then some (k, some false)
      else none := by
  simp only [leaderSpaceMatch, h, fits_eq_inScaled]

theorem repeatSpaceMatch_some {p : Profile} {c : Candidate} {k : Nat} (h : c.repeated = some k) (d : Nat) :
    repeatSpaceMatch p c d = if fits p k d p.repeatSpace then some k else none := by
  simp only [repeatSpaceMatch, h, fits_eq_inScaled]

/-- A length is a scaled end silence of the candidate (R42). -/
def SilenceOf (s : State) (c : Candidate) (n : Nat) : Prop :=
  ∃ k, (c.leader = some k ∨ c.repeated = some k) ∧ n = (s.profile c.slot).endSilence * k / 256

/-- The greatest of a list, 0 for none. -/
theorem foldl_max_spec (xs : List Nat) :
    (xs.foldl max 0 = 0 ∨ xs.foldl max 0 ∈ xs) ∧ ∀ x ∈ xs, x ≤ xs.foldl max 0 := by
  obtain ⟨hmem, hle⟩ := List.max?_eq_some_iff.mp (List.max?_cons' (x := 0) (xs := xs))
  exact ⟨List.mem_cons.mp hmem, fun x hx => hle x (List.mem_cons_of_mem 0 hx)⟩

/-- The end silence at a scale that a candidate may have, 0 without one. -/
def silenceAt (p : Profile) : Option Nat → Nat
  | some k => scaled p.endSilence k
  | none => 0

/-- The greatest scaled end silence of one candidate. -/
def candidateSilence (s : State) (c : Candidate) : Nat :=
  max (silenceAt (s.profile c.slot) c.leader) (silenceAt (s.profile c.slot) c.repeated)

theorem spaceThreshold_eq (s : State) (cs : List Candidate) :
    spaceThreshold s cs = (cs.map (candidateSilence s)).foldl max 0 := rfl

theorem silenceOf_le {s : State} {c : Candidate} {n : Nat} (h : SilenceOf s c n) : n ≤ candidateSilence s c := by
  obtain ⟨k, hk | hk, rfl⟩ := h
  · simp only [candidateSilence, hk]; exact Nat.le_max_left _ _
  · simp only [candidateSilence, hk]; exact Nat.le_max_right _ _

theorem candidateSilence_attained (s : State) (c : Candidate) :
    candidateSilence s c = 0 ∨ SilenceOf s c (candidateSilence s c) := by
  have hattained : ∀ o : Option Nat, (o = c.leader ∨ o = c.repeated) →
      silenceAt (s.profile c.slot) o = 0 ∨ SilenceOf s c (silenceAt (s.profile c.slot) o) := by
    intro o ho
    cases o with
    | none => exact .inl rfl
    | some k => exact .inr ⟨k, ho.imp Eq.symm Eq.symm, rfl⟩
  unfold candidateSilence
  rcases Nat.le_total (silenceAt (s.profile c.slot) c.leader) (silenceAt (s.profile c.slot) c.repeated) with h | h
  · rw [Nat.max_eq_right h]
    exact hattained _ (.inr rfl)
  · rw [Nat.max_eq_left h]
    exact hattained _ (.inl rfl)

/-- SPACE_CHECK ends at the greatest scaled end silence of its candidates (R42). -/
theorem spaceThreshold_greatest (s : State) (cs : List Candidate) :
    (∀ c ∈ cs, ∀ n, SilenceOf s c n → n ≤ spaceThreshold s cs) ∧
      (spaceThreshold s cs = 0 ∨ ∃ c ∈ cs, SilenceOf s c (spaceThreshold s cs)) := by
  obtain ⟨hmem, hle⟩ := foldl_max_spec (cs.map (candidateSilence s))
  rw [← spaceThreshold_eq] at hmem hle
  refine ⟨fun c hc n hn => Nat.le_trans (silenceOf_le hn) (hle _ (List.mem_map_of_mem hc)), ?_⟩
  rcases hmem with h0 | hmem
  · exact .inl h0
  · obtain ⟨c, hc, heq⟩ := List.mem_map.mp hmem
    rcases candidateSilence_attained s c with h0 | hs
    · exact .inl (heq ▸ h0)
    · exact .inr ⟨c, hc, heq ▸ hs⟩

/-! ## Bits and half-bits -/

theorem addBit_eq (p : Profile) (part : PartialFrame) (v : Bool) :
    addBit p part v =
      if p.bitsMax ≤ part.count then .long part
      else .ok { part with count := part.count + 1,
                           payload := part.payload ||| BitVec.ofNat 128 (if v then 2 ^ part.count else 0) } := by
  have hbit : BitVec.ofNat 128 (2 ^ part.count) = BitVec.twoPow 128 part.count :=
    BitVec.eq_of_toNat_eq (by simp [BitVec.toNat_twoPow])
  unfold addBit
  cases v <;> simp [hbit]

theorem pairValue_eq (polarity : Polarity) (first : Bool) :
    pairValue polarity first = (first == (polarity == .markFirstIsOne)) := by
  cases polarity <;> cases first <;> rfl

/-- Settles O34: each function of the decoder against the rule it follows. -/
theorem intervalsJudgedByScaledWindows : Obligations.IntervalsJudgedByScaledWindows := by
  intro s l p bit half halfAgain
  have hbit : ∀ v part, addBit p part v = bit v part := fun v part => addBit_eq p part v
  have hhalf : ∀ level part, addHalf p part level = half level part := by
    intro level part
    cases hh : part.half with
    | none => simp only [addHalf, half, hh]
    | some first => simp only [addHalf, half, hh, hbit, pairValue_eq]
  refine ⟨fun m n => ⟨fun h => markScale_of_learn h m n, fun h => markScale_of_not_learn h m n⟩,
    fun m => ⟨candidates_slots_sublist s l m, fun c => mem_candidates⟩,
    fun c d => ⟨fun h => ?_, fun h => ?_, fun k h => leaderSpaceMatch_some h d, fun k h => repeatSpaceMatch_some h d⟩,
    fun cs => spaceThreshold_greatest s cs, fun he k d part => ?_, fun he k d part => ?_,
    fun he k d level part => ?_⟩
  · simp only [leaderSpaceMatch, h]
  · simp only [repeatSpaceMatch, h]
  · simp only [symbol, silence, he, fits_eq_inScaled, pdistMark, pdistSpace, hbit, Bool.and_eq_true, and_self]
  · simp only [symbol, silence, he, fits_eq_inScaled, pwidthMark, pwidthSpace, hbit, Bool.and_eq_true, bne_iff_ne,
      Bool.not_eq_true', Bool.or_eq_true, decide_eq_true_eq, and_self]
  · simp only [symbol, silence, he, fits_eq_inScaled, biphaseInterval, hhalf]
    refine ⟨?_, fun h => by simp only [h], fun h => by simp only [h], fun h => by simp only [h]⟩
    cases half level part <;> rfl

end Sys2Proof.Machine
end

section
/-! The start of a transmission as one update of the state (R28, R32, R35, R91), and the spacing timer (R93, R96). -/

namespace Sys2Proof.Machine

open Sys2Proof.Claims

/-! ## Parts of a start -/

/-- A state with another capture list. -/
def State.setCaptureList (s : State) (list : List Word) : State := { s with captureList := list }

@[simp] theorem State.setCaptureList_lane (s : State) (list : List Word) (l : Lane) :
    (s.setCaptureList list).lane l = s.lane l := rfl

@[simp] theorem State.setCaptureList_setLane (s : State) (list : List Word) (l : Lane) (x : LaneState) :
    (s.setCaptureList list).setLane l x = (s.setLane l x).setCaptureList list := rfl

/-- Abandoned work returns a capture's buffer to the list (R56, R63). -/
theorem abandonWork_eq (l : Lane) (s : State) :
    abandonWork l s = s.setCaptureList (s.captureList ++ (s.lane l).decoder.buffer.toList) := by
  unfold abandonWork
  split <;> rename_i h <;> simp [h, returnBuffer, State.setCaptureList]

theorem satInc_half (x : Half) : satInc x = BitVec.ofNat 16 (min (x.toNat + 1) 65535) :=
  BitVec.eq_of_toNat_eq
    ((satInc_toNat x).trans ((BitVec.toNat_ofNat _ _).trans (Nat.mod_eq_of_lt (by omega))).symm)

theorem huntSince_eq_sense (d : Decoder) : d.huntSince = sense d := by
  cases d <;> rfl

/-- The line-busy sense is false in HUNT alone (R34). -/
theorem busy_iff {d : Decoder} : d.busy = true ↔ ∀ since, d ≠ .hunt since := by
  cases d <;> simp [Decoder.busy]

theorem begun_eq (r : ActiveRequest) (now : Moment) :
    r.begun now =
      { r with started := BitVec.ofNat 16 (min (r.started.toNat + 1) 65535), lastStart := now,
               firstStart := some (r.firstStart.getD now) } := by
  unfold ActiveRequest.begun
  rw [satInc_half]
  cases r.firstStart <;> rfl

theorem limitFrom_eq (r : ActiveRequest) (now : Moment) (timer : Option Moment) :
    r.limitFrom now timer =
      if r.kind = .hold ∧ r.firstStart = none then some (now + r.entry.holdLimit.toNat * 1000) else timer := by
  unfold ActiveRequest.limitFrom
  cases r.kind <;> cases r.firstStart <;> simp

/-- The line form a start sends, by the request's kind (R91, R92, R95, R104, R112). -/
def State.sentForm (s : State) (r : ActiveRequest) : List Interval :=
  let p := s.requestProfile r.entry
  let frame := frameForm p r.entry.payload r.entry.bitCount.toNat
  match r.kind with
  | .raw => rawForm r.pairs
  | .exchange => frame
  | .send => if r.started = 0 ∨ r.entry.repeatForm.toNat ≠ 1 then frame else repeatForm p
  | .hold => if r.started = 0 ∨ p.repeatMark = 0 then frame else repeatForm p

theorem nextForm_eq (s : State) (r : ActiveRequest) : s.nextForm r = s.sentForm r := by
  unfold State.nextForm State.sentForm wantsCode Profile.hasRepeat
  cases r.kind with
  | raw => rfl
  | exchange => rfl
  | send =>
    by_cases h0 : r.started = 0
    · simp [h0]
    · by_cases hc : r.entry.repeatForm.toNat = 1 <;> simp [hc]
  | hold =>
    by_cases h0 : r.started = 0
    · simp [h0]
    · by_cases hc : (s.requestProfile r.entry).repeatMark = 0 <;> simp [hc]

/-- The start of the active request's transmission is the manual's one update. -/
theorem startTransmission_eq_onAir {l : Lane} {s : State} {r : ActiveRequest}
    (h : (s.lane l).seq.active = some r) (forced : Bool) : startTransmission l forced s = onAir l r forced s := by
  unfold startTransmission
  simp only [h, nextForm_eq, begun_eq, limitFrom_eq, LaneState.huntMet, huntSince_eq_sense]
  unfold onAir raiseBlind
  simp only [abandonWork_eq]
  by_cases hs : (s.lane l).settings.mode = .shared
  · cases hb : (s.lane l).blind with
    | false =>
      cases forced with
      | true => simp [hs, hb, State.modLane, bump, State.sentForm]; rfl
      | false =>
        cases hc : (s.lane l).decoder.collecting <;> simp [hs, hb, hc, State.modLane, bump, State.sentForm] <;> rfl
    | true => cases forced <;> simp [hs, hb, State.modLane, bump, State.sentForm] <;> rfl
  · have hbeq : ((s.lane l).settings.mode == LaneMode.shared) = false := by simp [hs]
    cases forced <;> simp [hs, hbeq, State.modLane, bump, State.sentForm] <;> rfl

end Sys2Proof.Machine
end

section
/-! Line forms (R5 to R9, R95): each form as a list of intervals, and a BIPHASE form by its level at every µs. -/

namespace Sys2Proof.Machine

open Sys2Proof.Claims

/-! ## Bits of a frame -/

/-- The two intervals of a PDIST bit (R5). -/
def pdistBit (p : Profile) (payload : Payload) (i : Nat) : List Interval :=
  [⟨true, p.mark0⟩, ⟨false, if payload.getLsbD i then p.space1 else p.space0⟩]

/-- The mark of a PWIDTH bit (R6). -/
def pwidthBit (p : Profile) (payload : Payload) (i : Nat) : Interval :=
  ⟨true, if payload.getLsbD i then p.mark1 else p.mark0⟩

/-- The two halves of a BIPHASE bit (R7). -/
def biphaseBit (p : Profile) (payload : Payload) (i : Nat) : List Interval :=
  [⟨markFirst p.polarity (payload.getLsbD i), p.mark0⟩, ⟨!markFirst p.polarity (payload.getLsbD i), p.mark0⟩]

theorem pdistBits_eq (p : Profile) (payload : Payload) (i n : Nat) :
    pdistBits p payload i n = (List.range' i n).flatMap (pdistBit p payload) := by
  induction n generalizing i with
  | zero => rfl
  | succ n ih => rw [pdistBits, ih, List.range'_succ, List.flatMap_cons]; rfl

theorem pwidthBits_eq (p : Profile) (payload : Payload) (i n : Nat) :
    pwidthBits p payload i n = ((List.range' i n).map (pwidthBit p payload)).intersperse ⟨false, p.space0⟩ := by
  induction n generalizing i with
  | zero => rfl
  | succ n ih =>
    rw [pwidthBits, ih, List.range'_succ, List.map_cons]
    cases n with
    | zero => rfl
    | succ n => rw [List.range'_succ, List.map_cons]; rfl

theorem halfBits_eq (p : Profile) (payload : Payload) (i n : Nat) :
    halfBits p payload i n = (List.range' i n).flatMap (biphaseBit p payload) := by
  induction n generalizing i with
  | zero => rfl
  | succ n ih => rw [halfBits, ih, List.range'_succ, List.flatMap_cons]; rfl

theorem markFirst_eq (polarity : Polarity) (bit : Bool) :
    markFirst polarity bit = (bit == (polarity == .markFirstIsOne)) := by
  cases polarity <;> cases bit <;> rfl

/-! ## Levels of a form -/

/-- Neighbours differ in level. -/
def Alternates (xs : List Interval) : Prop :=
  ∀ (i : Nat) (a b : Interval), xs[i]? = some a → xs[i + 1]? = some b → a.mark ≠ b.mark

theorem alternates_nil : Alternates [] := fun _ _ _ ha => by cases ha

theorem alternates_singleton (x : Interval) : Alternates [x] := fun _ _ _ _ hb => by cases hb

theorem alternates_cons_cons {x y : Interval} {rest : List Interval} :
    Alternates (x :: y :: rest) ↔ x.mark ≠ y.mark ∧ Alternates (y :: rest) := by
  refine ⟨fun h => ⟨h 0 x y rfl rfl, fun i => h (i + 1)⟩, fun ⟨hxy, hrest⟩ i a b ha hb => ?_⟩
  cases i with
  | zero => cases ha; cases hb; exact hxy
  | succ i => exact hrest i a b ha hb

theorem Alternates.of_append {xs ys : List Interval} (h : Alternates (xs ++ ys)) : Alternates xs ∧ Alternates ys := by
  refine ⟨fun i a b ha hb => ?_, fun i a b ha hb => ?_⟩
  · obtain ⟨hi, -⟩ := List.getElem?_eq_some_iff.mp hb
    exact h i a b (by rw [List.getElem?_append_left (by omega), ha]) (by rw [List.getElem?_append_left hi, hb])
  · refine h (xs.length + i) a b ?_ ?_
    · rw [List.getElem?_append_right (by omega), Nat.add_sub_cancel_left, ha]
    · rw [Nat.add_assoc, List.getElem?_append_right (by omega), Nat.add_sub_cancel_left, hb]

/-- An interval put before others whose neighbouring levels differ. -/
def pushLevel (x : Interval) : List Interval → List Interval
  | [] => [x]
  | y :: more => if x.mark = y.mark then { mark := x.mark, length := x.length + y.length } :: more else x :: y :: more

theorem pushLevel_cons (x y : Interval) (more : List Interval) :
    pushLevel x (y :: more) =
      if x.mark = y.mark then { mark := x.mark, length := x.length + y.length } :: more else x :: y :: more := rfl

theorem mergeLevels_cons (x : Interval) (rest : List Interval) :
    mergeLevels (x :: rest) = pushLevel x (mergeLevels rest) := by
  rw [mergeLevels]
  cases mergeLevels rest <;> rfl

theorem markAt_pushLevel (x : Interval) (ys : List Interval) (d : Nat) :
    markAt (pushLevel x ys) d = if d < x.length then x.mark else markAt ys (d - x.length) := by
  cases ys with
  | nil => rfl
  | cons y more =>
    rw [pushLevel_cons]
    split
    · rename_i hm
      simp only [markAt, hm]
      by_cases hx : d < x.length
      · rw [if_pos hx, if_pos (by omega)]
      · rw [if_neg hx]
        by_cases hy : d - x.length < y.length
        · rw [if_pos hy, if_pos (by omega)]
        · rw [if_neg hy, if_neg (by omega), Nat.sub_sub]
    · rfl

/-- Joining neighbours of one level changes the level at no µs (R7). -/
theorem markAt_mergeLevels (xs : List Interval) (d : Nat) : markAt (mergeLevels xs) d = markAt xs d := by
  induction xs generalizing d with
  | nil => rfl
  | cons x rest ih => rw [mergeLevels_cons, markAt_pushLevel, ih]; rfl

theorem alternates_pushLevel {x : Interval} {ys : List Interval} (h : Alternates ys) : Alternates (pushLevel x ys) := by
  cases ys with
  | nil => exact alternates_singleton x
  | cons y more =>
    rw [pushLevel_cons]
    split
    · rename_i hm
      cases more with
      | nil => exact alternates_singleton _
      | cons z more =>
        rw [alternates_cons_cons] at h ⊢
        exact ⟨hm ▸ h.1, h.2⟩
    · rename_i hm
      exact alternates_cons_cons.mpr ⟨hm, h⟩

/-- Joined intervals alternate (R7). -/
theorem alternates_mergeLevels (xs : List Interval) : Alternates (mergeLevels xs) := by
  induction xs with
  | nil => exact alternates_nil
  | cons x rest ih => rw [mergeLevels_cons]; exact alternates_pushLevel ih

theorem dropLastSpaces_append (xs ys : List Interval) :
    dropLastSpaces (xs ++ ys) =
      if dropLastSpaces ys = [] then dropLastSpaces xs else xs ++ dropLastSpaces ys := by
  simp only [dropLastSpaces, List.reverse_append, List.dropWhile_append, List.isEmpty_iff, List.reverse_eq_nil_iff]
  split
  · rfl
  · rw [List.reverse_append, List.reverse_reverse]

theorem dropLastSpaces_singleton (x : Interval) : dropLastSpaces [x] = if x.mark then [x] else [] := by
  obtain ⟨mark, n⟩ := x
  cases mark <;> rfl

theorem dropLastSpaces_cons (x : Interval) (rest : List Interval) :
    dropLastSpaces (x :: rest) =
      if dropLastSpaces rest = [] then (if x.mark then [x] else []) else x :: dropLastSpaces rest := by
  rw [← dropLastSpaces_singleton]
  exact dropLastSpaces_append [x] rest

/-- A form begins with what is left of it. -/
theorem dropLastSpaces_append_spaces (form : List Interval) : ∃ spaces, dropLastSpaces form ++ spaces = form :=
  ⟨(form.reverse.takeWhile fun x => !x.mark).reverse, by
    rw [dropLastSpaces, ← List.reverse_append, List.takeWhile_append_dropWhile, List.reverse_reverse]⟩

/-- The spaces after the last mark are idle like the time after them (R7 (3), R8). -/
theorem markAt_dropLastSpaces (form : List Interval) (d : Nat) : markAt (dropLastSpaces form) d = markAt form d := by
  induction form generalizing d with
  | nil => rfl
  | cons x rest ih =>
    rw [dropLastSpaces_cons]
    split
    · rename_i hrest
      have hidle : markAt rest (d - x.length) = false := by rw [← ih, hrest]; rfl
      rw [markAt, hidle]
      cases hm : x.mark with
      | true => rw [if_pos rfl, markAt, hm]; rfl
      | false => rw [if_neg (by decide), ite_self]; rfl
    · rw [markAt, markAt, ih]

theorem dropLastSpaces_getLast {form : List Interval} {a : Interval} (h : (dropLastSpaces form).getLast? = some a) :
    a.mark = true := by
  induction form with
  | nil => cases h
  | cons x rest ih =>
    rw [dropLastSpaces_cons] at h
    split at h
    · cases hm : x.mark with
      | true =>
        rw [hm, if_pos rfl] at h
        cases h
        exact hm
      | false =>
        rw [hm, if_neg (by decide)] at h
        cases h
    · rename_i hrest
      obtain ⟨y, more, hy⟩ := List.exists_cons_of_ne_nil hrest
      rw [hy, List.getLast?_cons_cons] at h
      exact ih (hy ▸ h)

/-! ## RAW lists -/

/-- The last pair's space is not driven (R95). -/
theorem rawForm_append_singleton (pairs : List RawPair) (q : RawPair) :
    rawForm (pairs ++ [q]) =
      (pairs.flatMap fun r => [⟨true, r.mark.toNat⟩, ⟨false, r.space.toNat⟩]) ++ [⟨true, q.mark.toNat⟩] := by
  induction pairs with
  | nil => rfl
  | cons r rest ih => simp [rawForm, ih]

/-! ## Frames -/

theorem frameForm_biphase {p : Profile} (h : p.encoding = .biphase) (payload : Payload) (k : Nat) :
    frameForm p payload k =
      dropLastSpaces (mergeLevels (leaderForm p ++ (List.range' 0 k).flatMap (biphaseBit p payload))) := by
  simp only [frameForm, h, halfBits_eq]

/-! ## The spacing timer -/

theorem spacingExpires_of_early {l : Lane} {s : State} {due : Moment} (h : (s.lane l).seq.spacingDue = some due)
    (hlt : s.clock < due) : spacingExpires l s = s := by
  unfold spacingExpires
  simp [h, expired, Nat.not_le.mpr hlt]

/-- In GAP or HOLDING the next transmission starts, but for a first one that a busy line defers (R93, R96). -/
theorem spacingExpires_of_due {l : Lane} {s : State} {due : Moment} {r : ActiveRequest}
    (hdue : (s.lane l).seq.spacingDue = some due) (hact : (s.lane l).seq.active = some r) (hle : due ≤ s.clock) :
    ((s.lane l).seq.state = .gap → spacingExpires l s =
        if r.started = 0 then deferOrStart l s else startTransmission l false s) ∧
      ((s.lane l).seq.state = .holding → spacingExpires l s = startTransmission l false s) := by
  unfold spacingExpires
  constructor <;> intro hs <;> simp [hdue, expired, hle, hs, hact]

theorem deferOrStart_busy {l : Lane} {s : State} (hs : (s.lane l).settings.mode = .shared)
    (hb : ∀ since, (s.lane l).decoder ≠ .hunt since) :
    deferOrStart l s =
      s.modSeq l fun q =>
        { q with state := .defer, spacingDue := none,
                 deferDue := if (s.lane l).settings.deferLimit = 0 then none
                   else some (s.clock + (s.lane l).settings.deferLimit * 1000) } :=
  if_pos ⟨hs, busy_iff.mpr hb⟩

theorem deferOrStart_free {l : Lane} {s : State}
    (h : ¬ ((s.lane l).settings.mode = .shared ∧ ∀ since, (s.lane l).decoder ≠ .hunt since)) :
    deferOrStart l s = startTransmission l false s :=
  if_neg (by rwa [busy_iff])

/-- Neighbours of a BIPHASE form differ in level (R7). -/
theorem frameForm_biphase_neighbours {p : Profile} (h : p.encoding = .biphase) (payload : Payload) (k : Nat)
    {i : Nat} {a b : Interval} (ha : (frameForm p payload k)[i]? = some a)
    (hb : (frameForm p payload k)[i + 1]? = some b) : a.mark ≠ b.mark := by
  rw [frameForm_biphase h] at ha hb
  obtain ⟨spaces, hspaces⟩ :=
    dropLastSpaces_append_spaces (mergeLevels (leaderForm p ++ (List.range' 0 k).flatMap (biphaseBit p payload)))
  have halternates := alternates_mergeLevels (leaderForm p ++ (List.range' 0 k).flatMap (biphaseBit p payload))
  rw [← hspaces] at halternates
  exact halternates.of_append.1 i a b ha hb

/-- Settles O45: the line forms, and the spacing timer through `startTransmission_eq_onAir`. -/
theorem spacingTimerStartsOrDefers : Obligations.SpacingTimerStartsOrDefers := by
  refine ⟨fun p payload k => ?_, fun p => rfl, rawForm_append_singleton, ?_⟩
  · refine ⟨fun he => ?_, fun he => ?_, fun he => ⟨fun d => ?_, fun i a b => frameForm_biphase_neighbours he payload k,
      fun a ha => ?_⟩⟩
    · simp only [frameForm, he, pdistBits_eq, List.range_eq_range']
      rfl
    · simp only [frameForm, he, pwidthBits_eq, List.range_eq_range']
      rfl
    · rw [frameForm_biphase he, markAt_dropLastSpaces, markAt_mergeLevels, List.range_eq_range']
      simp only [← markFirst_eq]
      rfl
    · rw [frameForm_biphase he] at ha
      exact dropLastSpaces_getLast ha
  · intro l s r due hdue hact x busy
    refine ⟨fun hlt => ?_, fun hle => ⟨fun hgap hfirst hbusy => ?_, fun hstart => ?_⟩⟩
    · show Host.Outcome.next (spacingExpires l s) = _
      rw [spacingExpires_of_early hdue hlt]
    · show Host.Outcome.next (spacingExpires l s) = _
      rw [(spacingExpires_of_due hdue hact hle).1 hgap, if_pos hfirst, deferOrStart_busy hbusy.1 hbusy.2]
      rfl
    · show Host.Outcome.next (spacingExpires l s) = _
      rw [← startTransmission_eq_onAir hact]
      rcases hstart with ⟨hgap, hfree⟩ | hholding
      · rw [(spacingExpires_of_due hdue hact hle).1 hgap]
        split
        · rename_i hfirst
          rw [deferOrStart_free fun hbusy => hfree ⟨hfirst, hbusy⟩]
        · rfl
      · rw [(spacingExpires_of_due hdue hact hle).2 hholding]

end Sys2Proof.Machine
end

section
/-! What a lane sends, a decoder of the same profile takes as the same bits (R5 to R7, R42, R44 to R48). -/

namespace Sys2Proof.Machine

open Sys2Proof.Claims

/-! ## What a record that passes promises of its windows -/

theorem profileChecks_of_pass {r : ProfileRecord} (h : recordFault r = none) :
    (∀ c ∈ separations (profileOf r), c.2 = true) ∧
      (innerSpaces (profileOf r)).all
        (fun n => decide (n + halfWidth n (profileOf r).tolerance < (profileOf r).endSilence)) = true := by
  rw [recordFault_eq_firstBad, firstBad_eq_none] at h
  exact ⟨fun c hc => h c (by simp [profileChecks, hc]), h (14, _) (by simp [profileChecks])⟩

theorem inWindow_self (n tolerance : Nat) : inWindow n n tolerance = true := by simp [inWindow]

/-- A nominal lies outside a window that its own does not overlap (R18). -/
theorem inWindow_of_apart {x y tolerance : Nat} (h : windowsOverlap x y tolerance = false) :
    inWindow x y tolerance = false ∧ inWindow y x tolerance = false := by
  rw [windowsOverlap_eq_false] at h
  simp only [inWindow, Bool.and_eq_false_iff, decide_eq_false_iff_not]
  unfold halfWidth
  omega

theorem inScaled_256 (p : Profile) (d n : Nat) : inScaled p 256 d n = inWindow d n p.tolerance := by
  rw [inScaled, scaled_256]

/-! ## Bits held by a partial frame -/

/-- The first `n` bits of a payload, the others 0. -/
def firstBits (payload : Payload) (n : Nat) : Payload := (payload.setWidth n).setWidth 128

theorem firstBits_getLsbD (payload : Payload) (n i : Nat) :
    (firstBits payload n).getLsbD i = (decide (i < n) && payload.getLsbD i) := by
  unfold firstBits
  rw [BitVec.getLsbD_setWidth, BitVec.getLsbD_setWidth]
  by_cases hi : i < 128
  · simp [hi]
  · simp [BitVec.getLsbD_of_ge payload i (by omega)]

@[simp] theorem firstBits_zero (payload : Payload) : firstBits payload 0 = 0 :=
  BitVec.eq_of_getLsbD_eq fun i _ => by simp [firstBits_getLsbD]

theorem firstBits_succ (payload : Payload) (n : Nat) :
    firstBits payload (n + 1) =
      if payload.getLsbD n then firstBits payload n ||| BitVec.twoPow 128 n else firstBits payload n := by
  refine BitVec.eq_of_getLsbD_eq fun i hi => ?_
  rw [firstBits_getLsbD]
  by_cases hn : i = n
  · subst hn
    cases hb : payload.getLsbD i <;>
      simp only [if_true, Bool.false_eq_true, if_false, BitVec.getLsbD_or, BitVec.getLsbD_twoPow, firstBits_getLsbD] <;>
      simp [hi]
  · have hlt : i < n + 1 ↔ i < n := by omega
    split <;> simp only [BitVec.getLsbD_or, BitVec.getLsbD_twoPow, firstBits_getLsbD, hlt]
    · simp [Ne.symm hn]

/-- A partial frame holds the first `n` bits of the payload sent. -/
def Holds (payload : Payload) (n : Nat) (part : PartialFrame) : Prop :=
  part.count = n ∧ part.payload = firstBits payload n

/-- The next bit sent is stored at its position (R44 (1)). -/
theorem addBit_next {p : Profile} {payload : Payload} {n : Nat} {part : PartialFrame} (h : Holds payload n part)
    (hn : n < p.bitsMax) :
    addBit p part (payload.getLsbD n) =
      .ok { part with count := n + 1, payload := firstBits payload (n + 1) } := by
  obtain ⟨hcount, hpayload⟩ := h
  unfold addBit
  rw [if_neg (by omega), firstBits_succ, hcount, hpayload]

/-! ## Hearing a form -/

theorem heard_cons {p : Profile} {x : Interval} {rest : List Interval} {part next : PartialFrame}
    (h : symbol p 256 x.length x.mark part = .ok next) : heard p (x :: rest) part = heard p rest next := by
  rw [heard, h]

/-- What is heard to the end of two parts is heard to the end of the first. -/
theorem heard_append_ok {p : Profile} {xs ys : List Interval} {part last : PartialFrame}
    (h : heard p (xs ++ ys) part = .ok last) :
    ∃ middle, heard p xs part = .ok middle ∧ heard p ys middle = .ok last := by
  induction xs generalizing part with
  | nil => exact ⟨part, rfl, h⟩
  | cons x rest ih =>
    rw [List.cons_append, heard] at h
    rw [heard]
    split <;> rename_i hx <;> rw [hx] at h
    · exact ih h
    · cases h
    · cases h

theorem heard_append {p : Profile} {xs ys : List Interval} {part next : PartialFrame}
    (h : heard p xs part = .ok next) : heard p (xs ++ ys) part = heard p ys next := by
  induction xs generalizing part with
  | nil => rw [heard, SymbolResult.ok.injEq] at h; rw [h]; rfl
  | cons x rest ih =>
    rw [heard] at h
    rw [List.cons_append, heard]
    split <;> rename_i hx <;> rw [hx] at h
    · exact ih h
    · cases h
    · cases h

/-- Bit forms heard one after another: what each does to a partial frame, all do in turn. -/
theorem heard_bits {p : Profile} {form : Nat → List Interval} {Good : Nat → PartialFrame → Prop} {k : Nat}
    (hbit : ∀ i < k, ∀ part, Good i part → ∃ next, heard p (form i) part = .ok next ∧ Good (i + 1) next)
    {i n : Nat} (hn : i + n = k) {part : PartialFrame} (h : Good i part) :
    ∃ last, heard p ((List.range' i n).flatMap form) part = .ok last ∧ Good k last := by
  induction n generalizing i part with
  | zero => exact ⟨part, rfl, by rwa [← hn]⟩
  | succ n ih =>
    obtain ⟨next, hnext, hgood⟩ := hbit i (by omega) part h
    obtain ⟨last, hlast, hk⟩ := ih (i := i + 1) (by omega) hgood
    exact ⟨last, by rw [List.range'_succ, List.flatMap_cons, heard_append hnext, hlast], hk⟩

/-! ## PDIST -/

section Pdist

variable {p : Profile} {payload : Payload}

/-- One PDIST bit: its mark may match the trailer as well, its space decides the value (R45). -/
theorem heard_pdistBit (he : p.encoding = .pdist) (hsep : inWindow p.space1 p.space0 p.tolerance = false) {i : Nat}
    (hi : i < p.bitsMax) {part : PartialFrame} (h : Holds payload i part) :
    ∃ next, heard p (pdistBit p payload i) part = .ok next ∧ Holds payload (i + 1) next := by
  let marked : PartialFrame :=
    { part with bitMark := true, trailerMark := inWindow p.mark0 p.trailerMark p.tolerance }
  have hmark : symbol p 256 p.mark0 true part = .ok marked := by
    simp [symbol, he, pdistMark, inScaled_256, inWindow_self, marked]
  have hspace : symbol p 256 (if payload.getLsbD i then p.space1 else p.space0) false marked =
      addBit p marked (payload.getLsbD i) := by
    cases hb : payload.getLsbD i <;> simp [symbol, he, pdistSpace, inScaled_256, inWindow_self, hsep, marked]
  refine ⟨{ marked with count := i + 1, payload := firstBits payload (i + 1) }, ?_, rfl, rfl⟩
  rw [pdistBit, heard_cons hmark, heard_cons (hspace.trans (addBit_next (part := marked) h hi))]
  rfl

/-- A PDIST frame's bits and trailer (R45). -/
theorem heard_pdist (he : p.encoding = .pdist) (hsep : inWindow p.space1 p.space0 p.tolerance = false) {k : Nat}
    (hk : k ≤ p.bitsMax) :
    ∃ last, heard p (pdistBits p payload 0 k ++ [⟨true, p.trailerMark⟩]) PartialFrame.empty = .ok last ∧
      Holds payload k last ∧ silence p last = .ok last := by
  obtain ⟨last, hlast, hcount, hpayload⟩ := heard_bits (p := p) (form := pdistBit p payload) (Good := Holds payload)
    (k := k) (fun i hi part h => heard_pdistBit he hsep (by omega) h) (Nat.zero_add k) (part := PartialFrame.empty)
    ⟨rfl, (firstBits_zero payload).symm⟩
  refine ⟨{ last with bitMark := inWindow p.trailerMark p.mark0 p.tolerance, trailerMark := true }, ?_,
    ⟨hcount, hpayload⟩, by simp [silence, he]⟩
  rw [pdistBits_eq, heard_append hlast]
  simp [heard, symbol, he, pdistMark, inScaled_256, inWindow_self]

end Pdist

/-! ## PWIDTH -/

section Pwidth

variable {p : Profile} {payload : Payload}

/-- A PWIDTH bit after the first, with the space before it (R6 (2)). -/
def pwidthNext (p : Profile) (payload : Payload) (i : Nat) : List Interval :=
  [⟨false, p.space0⟩, pwidthBit p payload i]

theorem pwidthBits_succ (i n : Nat) :
    pwidthBits p payload i (n + 1) = pwidthBit p payload i :: (List.range' (i + 1) n).flatMap (pwidthNext p payload) := by
  induction n generalizing i with
  | zero => rfl
  | succ n ih =>
    rw [pwidthBits, ih, List.range'_succ, List.flatMap_cons]
    rfl

/-- A PWIDTH mark of a bit decides its value (R46 (1)). -/
theorem symbol_pwidthBit (he : p.encoding = .pwidth) (hsep : inWindow p.mark1 p.mark0 p.tolerance = false) {i : Nat}
    (hi : i < p.bitsMax) {part : PartialFrame} (h : Holds payload i part) :
    symbol p 256 (pwidthBit p payload i).length (pwidthBit p payload i).mark part =
      .ok { part with count := i + 1, payload := firstBits payload (i + 1) } := by
  rw [← addBit_next h hi]
  cases hb : payload.getLsbD i <;>
    simp [symbol, pwidthBit, he, pwidthMark, inScaled_256, inWindow_self, hsep, -BitVec.getLsbD_eq_getElem, hb]

theorem symbol_pwidthSpace (he : p.encoding = .pwidth) {part : PartialFrame} (h : part.trailerMark = false) :
    symbol p 256 p.space0 false part = .ok part := by
  simp [symbol, he, pwidthSpace, inScaled_256, inWindow_self, h]

theorem heard_pwidthNext (he : p.encoding = .pwidth) (hsep : inWindow p.mark1 p.mark0 p.tolerance = false) {i : Nat}
    (hi : i < p.bitsMax) {part : PartialFrame} (h : Holds payload i part) (hopen : part.trailerMark = false) :
    heard p (pwidthNext p payload i) part =
      .ok { part with count := i + 1, payload := firstBits payload (i + 1) } := by
  rw [pwidthNext, heard_cons (symbol_pwidthSpace he hopen), heard_cons (symbol_pwidthBit he hsep hi h)]
  rfl

/-- A PWIDTH frame's bits and, when the profile has one, its trailer (R46). -/
theorem heard_pwidth (he : p.encoding = .pwidth) (hsep : inWindow p.mark1 p.mark0 p.tolerance = false)
    (htrailer : p.trailerMark ≠ 0 →
      inWindow p.trailerMark p.mark0 p.tolerance = false ∧ inWindow p.trailerMark p.mark1 p.tolerance = false)
    {n : Nat} (hk : n + 1 ≤ p.bitsMax) :
    ∃ last,
      heard p (pwidthBits p payload 0 (n + 1) ++
        (if p.trailerMark = 0 then [] else [⟨false, p.space0⟩, ⟨true, p.trailerMark⟩])) PartialFrame.empty = .ok last ∧
      Holds payload (n + 1) last ∧ silence p last = .ok last := by
  have hfirst := symbol_pwidthBit he hsep (payload := payload) (i := 0) (part := PartialFrame.empty) (by omega)
    ⟨rfl, (firstBits_zero payload).symm⟩
  obtain ⟨last, hlast, hholds, hopen⟩ := heard_bits (p := p) (form := pwidthNext p payload) (k := n + 1)
    (Good := fun i part => Holds payload i part ∧ part.trailerMark = false)
    (fun i hi part h => ⟨_, heard_pwidthNext he hsep (by omega) h.1 h.2, ⟨rfl, rfl⟩, h.2⟩)
    (Nat.add_comm 1 n)
    (part := { PartialFrame.empty with count := 1, payload := firstBits payload 1 }) ⟨⟨rfl, rfl⟩, rfl⟩
  have hbits : heard p (pwidthBits p payload 0 (n + 1)) PartialFrame.empty = .ok last := by
    rw [pwidthBits_succ, heard_cons hfirst]
    exact hlast
  rw [heard_append hbits]
  by_cases ht : p.trailerMark = 0
  · exact ⟨last, by rw [if_pos ht]; rfl, hholds, by simp [silence, he, ht]⟩
  · obtain ⟨h0, h1⟩ := htrailer ht
    refine ⟨{ last with trailerMark := true }, ?_, hholds, by simp [silence, he]⟩
    rw [if_neg ht, heard_cons (symbol_pwidthSpace he hopen)]
    simp [heard, symbol, he, pwidthMark, inScaled_256, inWindow_self, h0, h1, ht]

end Pwidth

/-! ## BIPHASE -/

section Biphase

variable {p : Profile} {payload : Payload}

/-- The level of a bit's first half (R7). -/
def firstHalf (p : Profile) (payload : Payload) (i : Nat) : Bool := markFirst p.polarity (payload.getLsbD i)

/-- What follows the first half of bit `i` in a frame whose last bit is bit `i + n`, neighbours of one level joined: a
bit's second half and the next bit's first half are one interval when their levels agree. -/
def biphaseTail (p : Profile) (payload : Payload) (i : Nat) : Nat → List Interval
  | 0 => [⟨!firstHalf p payload i, p.mark0⟩]
  | n + 1 =>
      if (!firstHalf p payload i) = firstHalf p payload (i + 1) then
        ⟨!firstHalf p payload i, p.mark0 + p.mark0⟩ :: biphaseTail p payload (i + 1) n
      else
        ⟨!firstHalf p payload i, p.mark0⟩ :: ⟨firstHalf p payload (i + 1), p.mark0⟩ :: biphaseTail p payload (i + 1) n

/-- The rest of the frame after a bit's first half begins with the other level. -/
theorem biphaseTail_head (i n : Nat) :
    ∃ x rest, biphaseTail p payload i n = x :: rest ∧ x.mark = !firstHalf p payload i := by
  cases n with
  | zero => exact ⟨_, _, rfl, rfl⟩
  | succ n =>
    unfold biphaseTail
    split <;> exact ⟨_, _, rfl, rfl⟩

/-- A bit's two halves differ, so its first half joins nothing after it. -/
theorem pushLevel_firstHalf (i n : Nat) :
    pushLevel ⟨firstHalf p payload i, p.mark0⟩ (biphaseTail p payload i n) =
      ⟨firstHalf p payload i, p.mark0⟩ :: biphaseTail p payload i n := by
  obtain ⟨x, rest, htail, hx⟩ := biphaseTail_head (p := p) (payload := payload) i n
  rw [htail, pushLevel_cons, if_neg (by simp [hx])]

theorem mergeLevels_biphaseBit (i : Nat) (rest : List Interval) :
    mergeLevels (biphaseBit p payload i ++ rest) =
      pushLevel ⟨firstHalf p payload i, p.mark0⟩ (pushLevel ⟨!firstHalf p payload i, p.mark0⟩ (mergeLevels rest)) := by
  rw [← mergeLevels_cons, ← mergeLevels_cons]
  rfl

/-- The halves of the bits sent, neighbours of one level joined (R7). -/
theorem mergeLevels_halves (i n : Nat) :
    mergeLevels ((List.range' i (n + 1)).flatMap (biphaseBit p payload)) =
      ⟨firstHalf p payload i, p.mark0⟩ :: biphaseTail p payload i n := by
  rw [← pushLevel_firstHalf]
  induction n generalizing i with
  | zero => rw [List.range'_succ, List.flatMap_cons, mergeLevels_biphaseBit]; rfl
  | succ n ih =>
    rw [List.range'_succ, List.flatMap_cons, mergeLevels_biphaseBit, ih, pushLevel_firstHalf, pushLevel_cons, biphaseTail]

/-- No interval of the rest is longer than two halves. -/
theorem length_le_of_mem_biphaseTail {i n : Nat} {x : Interval} (h : x ∈ biphaseTail p payload i n) :
    x.length ≤ 2 * p.mark0 := by
  induction n generalizing i with
  | zero => rw [biphaseTail, List.mem_singleton] at h; subst h; show p.mark0 ≤ _; omega
  | succ n ih =>
    rw [biphaseTail] at h
    split at h
    · rcases List.mem_cons.mp h with rfl | h
      · show p.mark0 + p.mark0 ≤ _; omega
      · exact ih h
    · rcases List.mem_cons.mp h with rfl | h
      · show p.mark0 ≤ _; omega
      · rcases List.mem_cons.mp h with rfl | h
        · show p.mark0 ≤ _; omega
        · exact ih h

/-- The frame ends with the last bit's second half, joined to nothing. -/
theorem biphaseTail_last (i n : Nat) : ∃ before level, biphaseTail p payload i n = before ++ [⟨level, p.mark0⟩] := by
  induction n generalizing i with
  | zero => exact ⟨[], _, rfl⟩
  | succ n ih =>
    obtain ⟨before, level, htail⟩ := ih (i + 1)
    rw [biphaseTail, htail]
    split
    · exact ⟨_ :: before, level, rfl⟩
    · exact ⟨_ :: _ :: before, level, rfl⟩

/-! ### Hearing it -/

theorem pairValue_firstHalf (i : Nat) : pairValue p.polarity (firstHalf p payload i) = payload.getLsbD i := by
  unfold firstHalf
  cases p.polarity <;> simp [pairValue, markFirst]

/-- A second half of the other level completes the bit (R47). -/
theorem addHalf_second {i : Nat} (hi : i < p.bitsMax) {part : PartialFrame} (h : Holds payload i part)
    (hhalf : part.half = some (firstHalf p payload i)) :
    addHalf p part (!firstHalf p payload i) =
      .ok { part with count := i + 1, payload := firstBits payload (i + 1), half := none } := by
  have hbit := addBit_next (p := p) (part := { part with half := none }) (n := i) h hi
  simp [addHalf, hhalf, pairValue_firstHalf, hbit]

theorem symbol_half (he : p.encoding = .biphase) (level : Bool) (part : PartialFrame) :
    symbol p 256 p.mark0 level part = addHalf p part level := by
  simp [symbol, he, biphaseInterval, inScaled_256, inWindow_self]

/-- An interval of two halves is no single half, their windows lying apart (R18, R47). -/
theorem symbol_twoHalves (he : p.encoding = .biphase) (hsep : inWindow (2 * p.mark0) p.mark0 p.tolerance = false)
    {level : Bool} {part next : PartialFrame} (h : addHalf p part level = .ok next) :
    symbol p 256 (p.mark0 + p.mark0) level part = addHalf p next level := by
  rw [← Nat.two_mul]
  simp [symbol, he, biphaseInterval, inScaled_256, inWindow_self, hsep, h]

/-- From a first half on, the frame's bits are heard one by one (R47). -/
theorem heard_biphaseTail (he : p.encoding = .biphase) (hsep : inWindow (2 * p.mark0) p.mark0 p.tolerance = false)
    {i n : Nat} (hn : i + n < p.bitsMax) {part : PartialFrame} (h : Holds payload i part)
    (hhalf : part.half = some (firstHalf p payload i)) :
    ∃ last, heard p (biphaseTail p payload i n) part = .ok last ∧ Holds payload (i + n + 1) last ∧ last.half = none := by
  have hsecond := addHalf_second (by omega) h hhalf
  induction n generalizing i part with
  | zero =>
    exact ⟨_, by rw [biphaseTail, heard_cons ((symbol_half he _ part).trans hsecond)]; rfl, ⟨rfl, rfl⟩, rfl⟩
  | succ n ih =>
    let next : PartialFrame :=
      { part with count := i + 1, payload := firstBits payload (i + 1), half := some (firstHalf p payload (i + 1)) }
    obtain ⟨last, hlast, hholds, hnone⟩ := ih (i := i + 1) (part := next) (by omega) ⟨rfl, rfl⟩ rfl
      (addHalf_second (by omega) ⟨rfl, rfl⟩ rfl)
    refine ⟨last, ?_, by rwa [Nat.add_assoc i 1 n, Nat.add_comm 1 n] at hholds, hnone⟩
    have hfirst : addHalf p { next with half := none } (firstHalf p payload (i + 1)) = .ok next := rfl
    rw [biphaseTail]
    split
    · rename_i hsame
      rwa [heard_cons ((symbol_twoHalves he hsep hsecond).trans (hsame ▸ hfirst))]
    · rwa [heard_cons ((symbol_half he _ part).trans hsecond), heard_cons ((symbol_half he _ _).trans hfirst)]

/-- A half-bit space that completes a bit is the silence after a waiting mark half (R48). -/
theorem silence_of_lastHalf (he : p.encoding = .biphase) {part last : PartialFrame}
    (h : heard p [⟨false, p.mark0⟩] part = .ok last) (hnone : last.half = none) : silence p part = .ok last := by
  have hadd : addHalf p part false = .ok last := by
    rw [← symbol_half he]
    rw [heard] at h
    split at h <;> rename_i hx
    · rw [hx]; exact h
    · cases h
    · cases h
  cases hh : part.half with
  | none =>
    simp only [addHalf, hh, SymbolResult.ok.injEq] at hadd
    rw [← hadd] at hnone
    cases hnone
  | some first =>
    cases first with
    | true => simpa [silence, he, hh] using hadd
    | false => simp [addHalf, hh] at hadd

/-- A form heard to its end is heard as well without its last spaces: the second half of a last bit that ends in a space
comes with end silence (R7 (3), R48). -/
theorem heard_dropLastSpaces (he : p.encoding = .biphase) {xs : List Interval} {part last : PartialFrame}
    (halternates : Alternates xs) (hend : ∃ before level, xs = before ++ [⟨level, p.mark0⟩])
    (hheard : heard p xs part = .ok last) (hnone : last.half = none) :
    ∃ last', heard p (dropLastSpaces xs) part = .ok last' ∧ silence p last' = .ok last := by
  obtain ⟨before, level, rfl⟩ := hend
  cases level with
  | true =>
    rw [dropLastSpaces_append, if_neg (show dropLastSpaces [⟨true, p.mark0⟩] ≠ [] from nofun)]
    exact ⟨last, hheard, by simp [silence, he, hnone]⟩
  | false =>
    have hkept : dropLastSpaces before = before := by
      rcases List.eq_nil_or_concat before with rfl | ⟨first, x, rfl⟩
      · rfl
      · rw [List.concat_eq_append, List.append_assoc] at halternates
        have hx : x.mark = true := by simpa using (alternates_cons_cons.mp halternates.of_append.2).1
        rw [List.concat_eq_append, dropLastSpaces_append, dropLastSpaces_singleton, if_pos hx, if_neg nofun]
    obtain ⟨middle, hmiddle, hhalf⟩ := heard_append_ok hheard
    rw [dropLastSpaces_append, if_pos (show dropLastSpaces [⟨false, p.mark0⟩] = [] from rfl), hkept]
    exact ⟨middle, hmiddle, silence_of_lastHalf he hhalf hnone⟩

/-! ### The whole frame -/

/-- Spaces before the last mark stay. -/
theorem dropLastSpaces_append_of_mark {xs ys : List Interval} (h : ∃ y ∈ ys, y.mark = true) :
    dropLastSpaces (xs ++ ys) = xs ++ dropLastSpaces ys := by
  obtain ⟨y, hy, hmark⟩ := h
  obtain ⟨before, after, rfl⟩ := List.append_of_mem hy
  rw [dropLastSpaces_append, if_neg]
  rw [dropLastSpaces_append, dropLastSpaces_cons, if_pos hmark]
  by_cases hafter : dropLastSpaces after = [] <;> simp [hafter]

theorem mem_of_mem_dropLastSpaces {x : Interval} {xs : List Interval} (h : x ∈ dropLastSpaces xs) : x ∈ xs := by
  obtain ⟨spaces, hspaces⟩ := dropLastSpaces_append_spaces xs
  rw [← hspaces]
  exact List.mem_append_left spaces h

/-- The levels of a frame with a leader: a first half that is a space lengthens the leader space (R7). -/
theorem mergeLevels_frame (hl : p.leaderMark ≠ 0) (n : Nat) :
    mergeLevels (leaderForm p ++ (List.range' 0 (n + 1)).flatMap (biphaseBit p payload)) =
      [⟨true, p.leaderMark⟩, ⟨false, if firstHalf p payload 0 then p.leaderSpace else p.leaderSpace + p.mark0⟩] ++
        (if firstHalf p payload 0 then [⟨true, p.mark0⟩] else []) ++ biphaseTail p payload 0 n := by
  rw [leaderForm, if_neg hl, List.cons_append, List.cons_append, List.nil_append, mergeLevels_cons, mergeLevels_cons,
    mergeLevels_halves, pushLevel_cons]
  cases firstHalf p payload 0 <;> rfl

/-- What follows the leader in a frame's levels. -/
def biphaseRest (p : Profile) (payload : Payload) (n : Nat) : List Interval :=
  (if firstHalf p payload 0 then [⟨true, p.mark0⟩] else []) ++ biphaseTail p payload 0 n

theorem biphaseRest_mark (n : Nat) : ∃ y ∈ biphaseRest p payload n, y.mark = true := by
  obtain ⟨x, rest, htail, hx⟩ := biphaseTail_head (p := p) (payload := payload) 0 n
  unfold biphaseRest
  cases hf : firstHalf p payload 0 with
  | true => exact ⟨⟨true, p.mark0⟩, by simp, rfl⟩
  | false => exact ⟨x, by simp [htail], by simp [hx, hf]⟩

theorem frameForm_biphaseRest (he : p.encoding = .biphase) (hl : p.leaderMark ≠ 0) (n : Nat) :
    frameForm p payload (n + 1) =
      ⟨true, p.leaderMark⟩ ::
        ⟨false, if firstHalf p payload 0 then p.leaderSpace else p.leaderSpace + p.mark0⟩ ::
          dropLastSpaces (biphaseRest p payload n) := by
  rw [frameForm_biphase he, mergeLevels_frame hl, List.append_assoc]
  exact dropLastSpaces_append_of_mark (biphaseRest_mark n)

theorem alternates_biphaseRest (hl : p.leaderMark ≠ 0) (n : Nat) : Alternates (biphaseRest p payload n) := by
  have halternates := alternates_mergeLevels (leaderForm p ++ (List.range' 0 (n + 1)).flatMap (biphaseBit p payload))
  rw [mergeLevels_frame hl, List.append_assoc] at halternates
  exact halternates.of_append.2

theorem length_le_of_mem_biphaseRest {n : Nat} {x : Interval} (h : x ∈ biphaseRest p payload n) :
    x.length ≤ 2 * p.mark0 := by
  rcases List.mem_append.mp h with h | h
  · split at h
    · rw [List.mem_singleton.mp h]
      show p.mark0 ≤ _
      omega
    · cases h
  · exact length_le_of_mem_biphaseTail h

/-- A frame's bits, the half that a merged leader space yields being `some false` (R42 (1), R47). -/
theorem heard_biphaseRest (he : p.encoding = .biphase) (hsep : inWindow (2 * p.mark0) p.mark0 p.tolerance = false)
    {n : Nat} (hn : n < p.bitsMax) :
    ∃ last,
      heard p (biphaseRest p payload n)
          { PartialFrame.empty with half := if firstHalf p payload 0 then none else some false } = .ok last ∧
        Holds payload (n + 1) last ∧ last.half = none := by
  obtain ⟨last, hlast, hholds, hnone⟩ := heard_biphaseTail he hsep (i := 0) (n := n) (by omega)
    (part := { PartialFrame.empty with half := some (firstHalf p payload 0) }) ⟨rfl, (firstBits_zero payload).symm⟩ rfl
  rw [Nat.zero_add] at hholds
  refine ⟨last, ?_, hholds, hnone⟩
  rw [← hlast, biphaseRest]
  cases firstHalf p payload 0 with
  | true => exact heard_cons (symbol_half he true _)
  | false => rfl

end Biphase

/-! ## The frame after its leader -/

/-- After the leader a frame is a leader space the decoder matches and a rest it hears to the payload's first `k` bits,
with no space of end silence. -/
def FrameHeard (p : Profile) (payload : Payload) (k : Nat) : Prop :=
  ∃ space half rest part ended,
    frameForm p payload k = ⟨true, p.leaderMark⟩ :: ⟨false, space⟩ :: rest ∧
    (∀ c : Candidate, c.leader = some 256 → leaderSpaceMatch p c space = some (256, half)) ∧
    (∀ x ∈ rest, x.mark = false → x.length < p.endSilence) ∧
    heard p rest { PartialFrame.empty with half := half } = .ok part ∧ silence p part = .ok ended ∧
    Holds payload k ended

theorem leaderSpaceMatch_alone (p : Profile) {c : Candidate} (hc : c.leader = some 256) :
    leaderSpaceMatch p c p.leaderSpace = some (256, none) := by
  rw [leaderSpaceMatch_some hc, fits_256, inWindow_self, if_pos rfl]

theorem leaderSpaceMatch_merged {p : Profile} (he : p.encoding = .biphase)
    (hmerged : inWindow (p.leaderSpace + p.mark0) p.leaderSpace p.tolerance = false) {c : Candidate}
    (hc : c.leader = some 256) : leaderSpaceMatch p c (p.leaderSpace + p.mark0) = some (256, some false) := by
  rw [leaderSpaceMatch_some hc, fits_256, fits_256, inWindow_self, hmerged]
  simp [he]

theorem frameHeard_pdist {p : Profile} {payload : Payload} {k : Nat} (he : p.encoding = .pdist) (hl : p.leaderMark ≠ 0)
    (hsep : inWindow p.space1 p.space0 p.tolerance = false) (hend : p.space0 < p.endSilence ∧ p.space1 < p.endSilence)
    (hk : k ≤ p.bitsMax) : FrameHeard p payload k := by
  obtain ⟨last, hlast, hholds, hsilence⟩ := heard_pdist (payload := payload) he hsep hk
  refine ⟨p.leaderSpace, none, pdistBits p payload 0 k ++ [⟨true, p.trailerMark⟩], last, last, ?_,
    fun _ => leaderSpaceMatch_alone p, fun x hx hspace => ?_, hlast, hsilence, hholds⟩
  · simp [frameForm, he, leaderForm, hl]
  · simp only [pdistBits_eq, List.mem_append, List.mem_flatMap, pdistBit, List.mem_cons, List.not_mem_nil, or_false] at hx
    rcases hx with ⟨i, -, rfl | rfl⟩ | rfl
    · cases hspace
    · dsimp only
      split
      · exact hend.2
      · exact hend.1
    · cases hspace

theorem frameHeard_pwidth {p : Profile} {payload : Payload} {n : Nat} (he : p.encoding = .pwidth) (hl : p.leaderMark ≠ 0)
    (hsep : inWindow p.mark1 p.mark0 p.tolerance = false)
    (htrailer : p.trailerMark ≠ 0 →
      inWindow p.trailerMark p.mark0 p.tolerance = false ∧ inWindow p.trailerMark p.mark1 p.tolerance = false)
    (hend : p.space0 < p.endSilence) (hk : n + 1 ≤ p.bitsMax) : FrameHeard p payload (n + 1) := by
  obtain ⟨last, hlast, hholds, hsilence⟩ := heard_pwidth (payload := payload) he hsep htrailer hk
  refine ⟨p.leaderSpace, none, _, last, last, ?_, fun _ => leaderSpaceMatch_alone p, fun x hx hspace => ?_, hlast,
    hsilence, hholds⟩
  · simp [frameForm, he, leaderForm, hl]
  · have hx' : x = ⟨false, p.space0⟩ := by
      rcases List.mem_append.mp hx with hx | hx
      · rw [pwidthBits_succ, List.mem_cons, List.mem_flatMap] at hx
        rcases hx with rfl | ⟨i, -, hx⟩
        · cases hspace
        · simp only [pwidthNext, List.mem_cons, List.not_mem_nil, or_false] at hx
          rcases hx with rfl | rfl
          · rfl
          · cases hspace
      · split at hx
        · cases hx
        · simp only [List.mem_cons, List.not_mem_nil, or_false] at hx
          rcases hx with rfl | rfl
          · rfl
          · cases hspace
    rw [hx']
    exact hend

theorem frameHeard_biphase {p : Profile} {payload : Payload} {n : Nat} (he : p.encoding = .biphase)
    (hl : p.leaderMark ≠ 0) (hsep : inWindow (2 * p.mark0) p.mark0 p.tolerance = false)
    (hmerged : firstHalf p payload 0 = true ∨ inWindow (p.leaderSpace + p.mark0) p.leaderSpace p.tolerance = false)
    (hend : 2 * p.mark0 < p.endSilence) (hk : n + 1 ≤ p.bitsMax) : FrameHeard p payload (n + 1) := by
  obtain ⟨last, hlast, hholds, hnone⟩ := heard_biphaseRest (payload := payload) he hsep hk
  obtain ⟨before, level, htail⟩ := biphaseTail_last (p := p) (payload := payload) 0 n
  have hlevel : ∃ before level, biphaseRest p payload n = before ++ [⟨level, p.mark0⟩] :=
    ⟨_ ++ before, level, by rw [biphaseRest, htail, List.append_assoc]⟩
  obtain ⟨part, hpart, hsilence⟩ := heard_dropLastSpaces he (alternates_biphaseRest hl n) hlevel hlast hnone
  refine ⟨_, _, dropLastSpaces (biphaseRest p payload n), part, last, frameForm_biphaseRest he hl n, fun c hc => ?_,
    fun x hx _ => Nat.lt_of_le_of_lt (length_le_of_mem_biphaseRest (mem_of_mem_dropLastSpaces hx)) hend, hpart, hsilence, hholds⟩
  cases hf : firstHalf p payload 0 with
  | true => exact leaderSpaceMatch_alone p hc
  | false => exact leaderSpaceMatch_merged he (hmerged.resolve_left (by simp [hf])) hc

theorem bitsMin_of_pass {r : ProfileRecord} (h : recordFault r = none) : 1 ≤ (profileOf r).bitsMin :=
  (within_iff.mp (recordRanges_of_pass h (12, within 1 128 r.bitsMin.toNat) (by simp [recordRanges]))).1

/-- Each encoding's frame is heard, by the windows that a record's checks keep apart. -/
theorem frameHeard_of_pass {r : ProfileRecord} {payload : Payload} {k : Nat} (h : recordFault r = none)
    (hl : (profileOf r).leaderMark ≠ 0) (hmin : (profileOf r).bitsMin ≤ k) (hmax : k ≤ (profileOf r).bitsMax)
    (hmerged : (profileOf r).encoding = .biphase → firstHalf (profileOf r) payload 0 = true ∨
      inWindow ((profileOf r).leaderSpace + (profileOf r).mark0) (profileOf r).leaderSpace (profileOf r).tolerance = false) :
    FrameHeard (profileOf r) payload k := by
  obtain ⟨hseparations, hinner⟩ := profileChecks_of_pass h
  have hone := bitsMin_of_pass h
  generalize profileOf r = p at *
  obtain ⟨n, rfl⟩ : ∃ n, k = n + 1 := ⟨k - 1, by omega⟩
  simp only [innerSpaces_all, decide_eq_true_eq] at hinner
  obtain ⟨-, hpdist, hpwidth, hbiphase, -⟩ := hinner
  unfold separations at hseparations
  cases he : p.encoding with
  | pdist =>
    obtain ⟨h0, h1⟩ := hpdist he
    simp only [he, List.mem_singleton, forall_eq, Bool.not_eq_true'] at hseparations
    exact frameHeard_pdist he hl (inWindow_of_apart hseparations).2 ⟨by omega, by omega⟩ hmax
  | pwidth =>
    have h0 := hpwidth he
    simp only [he, List.forall_mem_cons, Bool.not_eq_true', Bool.or_eq_true, beq_iff_eq, Bool.and_eq_true] at hseparations
    obtain ⟨hmarks, htrailer, -⟩ := hseparations
    refine frameHeard_pwidth he hl (inWindow_of_apart hmarks).2 (fun ht => ?_) (by omega) hmax
    obtain ⟨hmark0, hmark1⟩ := htrailer.resolve_left ht
    exact ⟨(inWindow_of_apart hmark0).1, (inWindow_of_apart hmark1).1⟩
  | biphase =>
    obtain ⟨hhalves, -⟩ := hbiphase he
    simp only [he, List.mem_singleton, forall_eq, Bool.not_eq_true'] at hseparations
    exact frameHeard_biphase he hl (inWindow_of_apart hseparations).2 (hmerged he) (by omega) hmax

/-- Settles O55: each encoding's frame heard interval by interval (`frameHeard_of_pass`). -/
theorem framesDecodeToTheirPayload : Obligations.FramesDecodeToTheirPayload := by
  intro r payload k p hpass hl hmin hmax hmerged
  obtain ⟨space, half, rest, part, ended, hform, hspace, hrest, hheard, hsilence, hcount, hpayload⟩ :=
    frameHeard_of_pass hpass hl hmin hmax hmerged
  exact ⟨space, half, rest, part, ended, hform, hspace, hrest, hheard, hsilence, hcount,
    fun i => by rw [hpayload, firstBits_getLsbD]⟩

end Sys2Proof.Machine
end

section
/-! What the receive side keeps of its glitch filter (R25 to R27): nothing but a confirmed transition, the report of a
stuck mark and a withdrawal of the blind condition touches it. The outbox, the press tracker and the capture writer
keep the decoder's state as well. -/

namespace Sys2Proof.Machine

/-- A lane's receiver: its glitch filter and its decoder's state. -/
def LaneState.receiver (x : LaneState) : Option InputFilter × Decoder := (x.filter, x.decoder)

/-- The receiver of lane `l`. -/
def State.receiver (s : State) (l : Lane) : Option InputFilter × Decoder := (s.lane l).receiver

theorem State.receiver_fst (s : State) (l : Lane) : (s.receiver l).1 = (s.lane l).filter := rfl

@[simp] theorem State.receiver_setLane (l : Lane) (x : LaneState) (s : State) :
    (s.setLane l x).receiver l = x.receiver := by
  simp [State.receiver]

@[simp] theorem State.receiver_modLane (l : Lane) (f : LaneState → LaneState) (s : State) :
    (s.modLane l f).receiver l = (f (s.lane l)).receiver := State.receiver_setLane l _ s

@[simp] theorem State.receiver_modSeq (l : Lane) (f : Sequencer → Sequencer) (s : State) :
    (s.modSeq l f).receiver l = s.receiver l := State.receiver_modLane l _ s

@[simp] theorem askBus_receiver (c : BusClient) (t : Transaction) (s : State) (l : Lane) :
    (askBus c t s).receiver l = s.receiver l := by
  rcases askBus_cases c t s with ⟨-, h⟩ | ⟨-, h⟩ <;> rw [h]
  rfl

@[simp] theorem bump_receiver (l : Lane) (c : LaneCounter) (s : State) : (bump l c s).receiver l = s.receiver l :=
  State.receiver_modLane l _ s

/-! ## Outbox and press tracker -/

@[simp] theorem enterOutbox_receiver (l : Lane) (ev : RxEvent) (s : State) :
    (enterOutbox l ev s).receiver l = s.receiver l := by
  rcases enterOutbox_cases l ev s with ⟨-, h⟩ | ⟨-, h⟩ <;> rw [h]
  · exact State.receiver_modLane l _ s
  · exact (bump_receiver l _ _).trans (State.receiver_modLane l _ s)

@[simp] theorem makeFrame_receiver (l : Lane) (ev : RxEvent) (s : State) :
    (makeFrame l ev s).receiver l = s.receiver l := by
  unfold makeFrame
  dsimp only
  split
  · exact (enterOutbox_receiver l ev _).trans (State.receiver_modLane l _ s)
  · exact enterOutbox_receiver l ev s

@[simp] theorem closePress_receiver (l : Lane) (s : State) : (closePress l s).receiver l = s.receiver l := by
  unfold closePress
  split
  · rfl
  · rw [State.receiver_modLane]
    split
    · exact makeFrame_receiver l _ s
    · rfl

@[simp] theorem countRepeat_receiver (l : Lane) (p : Press) (start : Moment) (s : State) :
    (countRepeat l p start s).receiver l = s.receiver l := by
  unfold countRepeat
  dsimp only
  split
  · exact (makeFrame_receiver l _ _).trans (State.receiver_modLane l _ s)
  · exact State.receiver_modLane l _ s

@[simp] theorem lookup_receiver (l : Lane) (f : GoodFrame) (s : State) :
    (lookup l f s).2.receiver l = s.receiver l := by
  unfold lookup
  split
  · split <;> rfl
  · rfl

@[simp] theorem firstEvents_receiver (l : Lane) (f : GoodFrame) (v : Verdict) (phase : Option PressPhase) (s : State) :
    (firstEvents l f v phase s).receiver l = s.receiver l := by
  unfold firstEvents
  split <;> simp

@[simp] theorem openPress_receiver (l : Lane) (f : GoodFrame) (v : Verdict) (d e : Bool) (s : State) :
    (openPress l f v d e s).receiver l = s.receiver l := by
  unfold openPress
  dsimp only
  split
  · exact State.receiver_modLane l _ s
  · rfl

@[simp] theorem newPress_receiver (l : Lane) (f : GoodFrame) (s : State) :
    (newPress l f s).receiver l = s.receiver l := by
  have hlookup : (lookup l f (closePress l s)).2.receiver l = s.receiver l := by simp
  unfold newPress
  dsimp only
  split
  · split
    · rw [openPress_receiver, makeFrame_receiver, State.receiver_modLane]
      exact hlookup
    · rw [openPress_receiver, hlookup]
  · rw [openPress_receiver, firstEvents_receiver, hlookup]

@[simp] theorem takeFrame_receiver (l : Lane) (f : GoodFrame) (s : State) :
    (takeFrame l f s).receiver l = s.receiver l := by
  unfold takeFrame
  split
  · simp
  · split <;> simp

@[simp] theorem takeRepeatCode_receiver (l : Lane) (i : SlotId) (start : Moment) (s : State) :
    (takeRepeatCode l i start s).receiver l = s.receiver l := by
  unfold takeRepeatCode
  split
  · simp
  · split <;> simp

/-! ## The transmit side's part -/

@[simp] theorem abandonWork_receiver (l : Lane) (s : State) : (abandonWork l s).receiver l = s.receiver l := by
  unfold abandonWork
  split <;> rfl

@[simp] theorem markOverrun_receiver (l : Lane) (s : State) : (markOverrun l s).receiver l = s.receiver l := by
  unfold markOverrun
  rw [bump_receiver, State.receiver_modLane]
  rfl

@[simp] theorem blindMark_receiver (l : Lane) (edge : Moment) (s : State) :
    (blindMark l edge s).receiver l = s.receiver l := by
  rcases blindMark_cases l edge s with ⟨t, since, -, -, -, -, -, h⟩ | h <;> simp [h]

@[simp] theorem takeGoodFrame_receiver (l : Lane) (f : GoodFrame) (s : State) :
    (takeGoodFrame l f s).receiver l = s.receiver l := by
  unfold takeGoodFrame complete
  dsimp only
  split
  · split <;> simp
  · simp

/-- The blind condition finds the decoder at work or in HUNT and leaves it BLIND, or leaves it as it is (R33). -/
theorem raiseBlind_receiver (l : Lane) (count : Bool) (s : State) :
    (raiseBlind l count s).receiver l = s.receiver l ∨
      (raiseBlind l count s).receiver l = ((s.receiver l).1, .blind) := by
  unfold raiseBlind
  dsimp only
  split
  · exact .inl (State.receiver_modLane l _ s)
  · refine .inr ?_
    rw [State.receiver_modLane]
    have hkept : ∀ u : State, u.receiver l = s.receiver l →
        ((abandonWork l u).lane l).filter = (s.receiver l).1 := by
      intro u hu
      rw [← State.receiver_fst, abandonWork_receiver, hu]
    split
    · exact congrArg (·, Decoder.blind) (hkept _ (bump_receiver l _ s))
    · exact congrArg (·, Decoder.blind) (hkept s rfl)

/-- A start blinds a SHARED lane's decoder and touches nothing else of a receiver (R32). -/
theorem startTransmission_receiver (l : Lane) (forced : Bool) (s : State) :
    (startTransmission l forced s).receiver l = s.receiver l ∨
      (startTransmission l forced s).receiver l = ((s.receiver l).1, .blind) := by
  unfold startTransmission
  split
  · exact .inl rfl
  · dsimp only
    have hcounted : (if forced then bump l .collisions s else s).receiver l = s.receiver l := by
      split <;> simp
    generalize (if forced then bump l .collisions s else s) = u at hcounted ⊢
    rw [← hcounted, State.receiver_modLane]
    split
    · exact raiseBlind_receiver l (!forced) u
    · exact .inl rfl

/-- The decoder enters HUNT, or is BLIND at once where that entry lets a waiting transmission start (R34, R96). -/
theorem enterHunt_receiver (l : Lane) (s : State) :
    (enterHunt l s).receiver l = ((s.receiver l).1, .hunt s.clock) ∨
      (enterHunt l s).receiver l = ((s.receiver l).1, .blind) := by
  have hentered : (s.modLane l fun x => { x with decoder := .hunt s.clock }).receiver l =
      ((s.receiver l).1, .hunt s.clock) := State.receiver_modLane l _ s
  unfold enterHunt huntEntered
  split
  · have h := startTransmission_receiver l false (s.modLane l fun x => { x with decoder := .hunt s.clock })
    rwa [hentered] at h
  all_goals exact .inl hentered

@[simp] theorem enterHunt_filter (l : Lane) (s : State) : ((enterHunt l s).receiver l).1 = (s.receiver l).1 := by
  rcases enterHunt_receiver l s with h | h <;> rw [h]

/-! ## The decoder -/

@[simp] theorem setDecoder_receiver (l : Lane) (d : Decoder) (s : State) :
    (setDecoder l d s).receiver l = ((s.receiver l).1, d) := State.receiver_modLane l _ s

@[simp] theorem finishCapture_receiver (l : Lane) (b : Word) (start : Moment) (c : Code) (pairs : List CapturePair)
    (s : State) : (finishCapture l b start c pairs s).receiver l = s.receiver l := by
  unfold finishCapture
  rw [askBus_receiver, State.receiver_modLane]
  rfl

@[simp] theorem frameError_receiver (l : Lane) (c : Code) (i : SlotId) (start : Moment) (part : PartialFrame)
    (s : State) : (frameError l c i start part s).receiver l = s.receiver l := by
  unfold frameError
  dsimp only
  split <;> simp

@[simp] theorem brokenAtEnd_filter (l : Lane) (c : Code) (i : SlotId) (start : Moment) (part : PartialFrame)
    (s : State) : ((brokenAtEnd l c i start part s).receiver l).1 = (s.receiver l).1 := by
  unfold brokenAtEnd; simp

@[simp] theorem frameEnds_filter (l : Lane) (i : SlotId) (start : Moment) (part : PartialFrame) (s : State) :
    ((frameEnds l i start part s).receiver l).1 = (s.receiver l).1 := by
  unfold frameEnds
  split <;> simp

@[simp] theorem orphan_filter (l : Lane) (i : SlotId) (k : Nat) (s : State) :
    ((orphan l i k s).receiver l).1 = (s.receiver l).1 := by
  unfold orphan; simp

@[simp] theorem claimCapture_receiver (l : Lane) (s : State) : (claimCapture l s).2.receiver l = s.receiver l := by
  unfold claimCapture
  split
  · split
    · rename_i h
      obtain ⟨rest, -, -, rfl⟩ := takeBuffer_eq_some.mp h
      rfl
    · exact bump_receiver l _ s
  · exact bump_receiver l _ s

@[simp] theorem firstMarkEnds_filter (l : Lane) (start : Moment) (m : Nat) (s : State) :
    ((firstMarkEnds l start m s).receiver l).1 = (s.receiver l).1 := by
  have h := claimCapture_receiver l s
  unfold firstMarkEnds
  split
  · simp
  · split <;> rename_i hc <;> rw [hc] at h <;> rw [setDecoder_receiver, ← h]

@[simp] theorem unclassifiedSpace_filter (l : Lane) (start : Moment) (m d : Nat) (mark : Option Moment) (s : State) :
    ((unclassifiedSpace l start m d mark s).receiver l).1 = (s.receiver l).1 := by
  have h := claimCapture_receiver l s
  unfold unclassifiedSpace
  generalize claimCapture l s = claim at h ⊢
  obtain ⟨_ | b, u⟩ := claim <;> dsimp only at h ⊢ <;> rw [← h] <;> split
  · simp
  · split <;> simp
  · simp
  · split <;> simp

@[simp] theorem firstSpaceEnds_filter (l : Lane) (start : Moment) (m : Nat) (cands : List Candidate) (d : Nat)
    (edge : Moment) (s : State) : ((firstSpaceEnds l start m cands d edge s).receiver l).1 = (s.receiver l).1 := by
  unfold firstSpaceEnds
  split <;> simp

@[simp] theorem symbolTaken_filter (l : Lane) (start : Moment) (i : SlotId) (k d : Nat) (level : Bool)
    (part : PartialFrame) (s : State) :
    ((symbolTaken l start i k d level part s).receiver l).1 = (s.receiver l).1 := by
  unfold symbolTaken brokenInside
  split <;> simp

@[simp] theorem closingMarkEnds_filter (l : Lane) (i : SlotId) (k d : Nat) (s : State) :
    ((closingMarkEnds l i k d s).receiver l).1 = (s.receiver l).1 := by
  unfold closingMarkEnds
  dsimp only
  split <;> simp

@[simp] theorem captureSpace_filter (l : Lane) (w : CaptureWork) (d : Nat) (s : State) :
    ((captureSpace l w d s).receiver l).1 = (s.receiver l).1 := by
  unfold captureSpace
  split
  · rfl
  · dsimp only
    split <;> simp

/-- A decoder that takes a transition leaves the glitch filter as the transition set it. -/
@[simp] theorem takeTransition_filter (l : Lane) (mark : Bool) (edge : Moment) (ended : Option Nat) (s : State) :
    ((takeTransition l mark edge ended s).receiver l).1 = (s.receiver l).1 := by
  unfold takeTransition captureMark
  split
  case h_1 | h_9 | h_10 => rfl
  all_goals split <;> simp

/-- A space that reaches its threshold leaves the glitch filter alone. -/
@[simp] theorem spaceCrossing_filter (l : Lane) (threshold : Nat) (s : State) :
    ((spaceCrossing l threshold s).receiver l).1 = (s.receiver l).1 := by
  unfold spaceCrossing
  split
  case h_2 | h_5 => split <;> simp
  all_goals simp

/-- A stuck mark is noted in the filter, and the decoder drains (R55). -/
theorem lineStuck_receiver (l : Lane) (edge : Moment) (s : State) :
    (lineStuck l edge s).receiver l =
      ((s.receiver l).1.map fun f => { f with stuckReported := true }, .drain .stuck) := by
  unfold lineStuck
  dsimp only
  rw [setDecoder_receiver, enterOutbox_receiver, State.receiver_modLane]
  show (((abandonWork l s).receiver l).1.map _, _) = _
  rw [abandonWork_receiver]

end Sys2Proof.Machine
end

section
/-! What time brings about on an empty queue (log entry 1): the happenings the idle step tries are those that are due. -/

namespace Sys2Proof.Machine

open Sys2Proof.Claims

theorem transmissionDue_iff {x : LaneState} {now : Moment} :
    x.transmissionDue now = true ↔ ∃ t, x.tx = some t ∧ t.endsAt ≤ now := by
  unfold LaneState.transmissionDue
  split <;> simp [*]

theorem windowDue_iff {x : LaneState} {now : Moment} :
    x.windowDue now = true ↔ ∃ p, x.press = some p ∧ p.windowDue ≤ now := by
  unfold LaneState.windowDue
  split <;> simp [*]

/-- An excursion that has held for glitch_width (R25). -/
theorem heldExcursion_eq_some {x : LaneState} {now e : Moment} :
    x.heldExcursion now = some e ↔
      ∃ f, x.filter = some f ∧ f.excursion = some e ∧ e + x.settings.glitchWidth ≤ now := by
  unfold LaneState.heldExcursion
  cases hf : x.filter with
  | none => simp
  | some f =>
    cases he : f.excursion with
    | none => simp [he]
    | some e' =>
      simp only [Option.ite_none_right_eq_some, Option.some.injEq, exists_eq_left', he]
      constructor
      · rintro ⟨hheld, rfl⟩; exact ⟨rfl, hheld⟩
      · rintro ⟨rfl, hheld⟩; exact ⟨hheld, rfl⟩

/-- A crossing is reported by a cutoff when the running interval has reached the threshold named by then, unless it is a
mark reported already (R27, R55). -/
theorem crossingBy_eq_some {s : State} {l : Lane} {cutoff : Moment} {f : InputFilter} {n : Nat} :
    s.crossingBy l cutoff = some (f, n) ↔
      (s.lane l).filter = some f ∧ s.namedThreshold l f.mark = some n ∧ f.firstEdge + n ≤ cutoff ∧
        ¬ (f.mark = true ∧ f.stuckReported = true) := by
  have hmarks : ∀ a b : Bool, (!(a && b)) = true ↔ ¬ (a = true ∧ b = true) := by decide
  unfold State.crossingBy
  split
  · rename_i hf
    simp [hf]
  · rename_i f' hf
    rw [hf]
    split
    · rename_i hn
      refine ⟨nofun, ?_⟩
      rintro ⟨⟨⟩, h, -⟩
      rw [hn] at h
      cases h
    · rename_i n' hn
      rw [Option.ite_none_right_eq_some]
      constructor
      · rintro ⟨⟨hle, hnew⟩, ⟨⟩⟩
        exact ⟨rfl, hn, hle, (hmarks _ _).mp hnew⟩
      · rintro ⟨⟨⟩, h, hle, hnew⟩
        rw [hn] at h
        cases h
        exact ⟨⟨hle, (hmarks _ _).mpr hnew⟩, rfl⟩

theorem crossingDue_iff {s : State} {l : Lane} :
    s.crossingDue l = true ↔
      ∃ f n, (s.lane l).filter = some f ∧ f.excursion = none ∧ s.namedThreshold l f.mark = some n ∧
        f.firstEdge + n ≤ s.clock ∧ ¬ (f.mark = true ∧ f.stuckReported = true) := by
  unfold State.crossingDue LaneState.excursionPending
  rw [Bool.and_eq_true, Option.isSome_iff_exists, Bool.not_eq_true']
  constructor
  · rintro ⟨⟨⟨f, n⟩, hcross⟩, hpending⟩
    obtain ⟨hf, hn, hle, hnew⟩ := crossingBy_eq_some.mp hcross
    rw [hf] at hpending
    exact ⟨f, n, hf, Option.not_isSome_iff_eq_none.mp (by simp [hpending]), hn, hle, hnew⟩
  · rintro ⟨f, n, hf, hpending, hn, hle, hnew⟩
    exact ⟨⟨(f, n), crossingBy_eq_some.mpr ⟨hf, hn, hle, hnew⟩⟩, by simp [hf, hpending]⟩

theorem mem_allLanes (l : Lane) : l ∈ allLanes := by
  revert l; decide

theorem mem_allQueues (q : EqId) : q ∈ allQueues := by
  revert q; decide

/-- A happening of a lane stands among those the idle step tries, marked as the lane's list marks it. -/
theorem mem_happenings_of_lane {s : State} {l : Lane} {h : Bool × Instr} (hmem : h ∈ s.laneHappenings l) :
    h ∈ s.happenings :=
  List.mem_append_left _ (List.mem_flatMap.mpr ⟨l, mem_allLanes l, hmem⟩)

/-- Every happening marked as due among those of a lane is due. -/
theorem due_of_mem_laneHappenings {s : State} {l : Lane} {c : Instr} (h : (true, c) ∈ s.laneHappenings l) : Due s c := by
  simp only [State.laneHappenings, List.mem_cons, Prod.mk.injEq, List.not_mem_nil, or_false] at h
  rcases h with ⟨h, rfl⟩ | ⟨h, rfl⟩ | ⟨h, rfl⟩ | ⟨h, rfl⟩ | ⟨h, rfl⟩ | ⟨h, rfl⟩ | ⟨h, rfl⟩ | ⟨h, rfl⟩ | ⟨h, rfl⟩ |
    ⟨h, rfl⟩
  case inr.inr.inl =>
    obtain ⟨e, he⟩ := Option.isSome_iff_exists.mp h.symm
    obtain ⟨f, hf, hexc, hheld⟩ := heldExcursion_eq_some.mp he
    exact ⟨f, e, hf, hexc, hheld⟩
  case inl => exact transmissionDue_iff.mp h.symm
  case inr.inr.inr.inl => exact crossingDue_iff.mp h.symm
  case inr.inr.inr.inr.inl => exact windowDue_iff.mp h.symm
  all_goals exact expired_iff.mp h.symm

/-- The idle step tries every happening that time brings about, marked by whether it is due. -/
theorem mem_happenings_iff_due {s : State} {c : Instr} : (true, c) ∈ s.happenings ↔ Due s c := by
  constructor
  · intro h
    rcases List.mem_append.mp h with h | h
    · obtain ⟨l, -, h⟩ := List.mem_flatMap.mp h
      exact due_of_mem_laneHappenings h
    · obtain ⟨q, -, h⟩ := List.mem_map.mp h
      obtain ⟨hdue, rfl⟩ := Prod.mk.inj h
      exact expired_iff.mp hdue
  · intro h
    cases c
    case holdoffExpiry q =>
      exact List.mem_append_right _ (List.mem_map.mpr ⟨q, mem_allQueues q, by rw [expired_iff.mpr h]⟩)
    case transmissionEnd l =>
      exact mem_happenings_of_lane (l := l) (by simp [State.laneHappenings, transmissionDue_iff.mpr h])
    case transitionConfirm l =>
      obtain ⟨f, e, hf, hexc, hheld⟩ := h
      exact mem_happenings_of_lane (l := l)
        (by simp [State.laneHappenings, heldExcursion_eq_some.mpr ⟨f, hf, hexc, hheld⟩])
    case thresholdCrossing l =>
      exact mem_happenings_of_lane (l := l) (by simp [State.laneHappenings, crossingDue_iff.mpr h])
    case repeatWindowExpiry l =>
      exact mem_happenings_of_lane (l := l) (by simp [State.laneHappenings, windowDue_iff.mpr h])
    case echoGuardExpiry l | gateWindowExpiry l | holdLimitExpiry l | replyWindowExpiry l | deferTimerExpiry l =>
      exact mem_happenings_of_lane (l := l) (by simp [State.laneHappenings, expired_iff.mpr h])
    case spacingTimerExpiry l =>
      exact mem_happenings_of_lane (l := l) (by simp [State.laneHappenings, LaneState.spacingDue, expired_iff.mpr h])
    all_goals exact h.elim

/-- The happening the idle step takes is due. -/
theorem due_of_dueHappening {s : State} {c : Instr} (h : s.dueHappening = some c) : Due s c := by
  obtain ⟨⟨marked, c'⟩, hfind, rfl⟩ := Option.map_eq_some_iff.mp h
  obtain rfl : marked = true := List.find?_some hfind
  exact mem_happenings_iff_due.mp (List.mem_of_find?_eq_some hfind)

/-- With nothing for the idle step to take, nothing is due. -/
theorem not_due_of_no_dueHappening {s : State} (h : s.dueHappening = none) (c : Instr) : ¬ Due s c := by
  intro hdue
  have hnone := List.find?_eq_none.mp (Option.map_eq_none_iff.mp h) _ (mem_happenings_iff_due.mpr hdue)
  exact hnone rfl

theorem tick_eq (s : State) : tick s = { s with clock := if s.engine = .running then s.clock + 1 else s.clock } := by
  unfold tick
  split <;> rename_i he
  · rw [if_pos he]
  · rw [if_neg (by simp [he])]
  · rw [if_neg (by simp [he])]

/-- Settles O2: the happenings tried are those due (`mem_happenings_iff_due`), and the step takes the first. -/
theorem idleStepIsTime : Obligations.IdleStepIsTime := by
  intro s hidle
  refine ⟨fun c hc => ⟨due_of_dueHappening hc, ?_⟩, fun hnone => ⟨?_, not_due_of_no_dueHappening hnone⟩⟩
  · simp only [step, hidle, hc]
  · simp only [step, hidle, hnone, tick_eq]

end Sys2Proof.Machine
end

section
/-! Crossings reported, excursions confirmed and changes of the input pin (R25 to R27): what each does to the glitch
filter, and when it leads to nothing further. -/

namespace Sys2Proof.Machine

open Sys2Proof.Claims

/-! ## Commands -/

theorem exec_pinEdge (l : Lane) (high : Bool) (s : State) :
    exec (.pinEdge l high) s = .next (chooseEvent (takePinEdge l high s)) := rfl

theorem exec_transitionConfirm (l : Lane) (s : State) :
    exec (.transitionConfirm l) s = .next (chooseEvent (confirmHeld l s)) := rfl

theorem exec_thresholdCrossing (l : Lane) (s : State) :
    exec (.thresholdCrossing l) s = .next (chooseEvent (crossingsNow l s)) := rfl

/-! ## Crossings -/

/-- The running interval has reached no threshold by `cutoff` that is still to be reported (R27, R55). -/
def State.Unreached (s : State) (l : Lane) (f : InputFilter) (cutoff : Moment) : Prop :=
  ∀ n, s.namedThreshold l f.mark = some n → cutoff < f.firstEdge + n ∨ f.mark = true ∧ f.stuckReported = true

theorem State.Unreached.of_unnamed {s : State} {l : Lane} {f : InputFilter} {cutoff : Moment}
    (h : s.namedThreshold l f.mark = none) : s.Unreached l f cutoff := by
  intro n hn
  rw [h] at hn
  cases hn

theorem crossingBy_of_unreached {s : State} {l : Lane} {f : InputFilter} {cutoff : Moment}
    (hf : (s.lane l).filter = some f) (h : s.Unreached l f cutoff) : s.crossingBy l cutoff = none := by
  rw [Option.eq_none_iff_forall_ne_some]
  rintro ⟨f', n⟩ hcross
  obtain ⟨hf', hn, hle, hnew⟩ := crossingBy_eq_some.mp hcross
  rw [hf] at hf'
  cases hf'
  rcases h n hn with hlt | hold
  · exact absurd hle (Nat.not_le.mpr hlt)
  · exact hnew hold

theorem reportCrossings_of_unreached {s : State} {l : Lane} {f : InputFilter} {cutoff : Moment}
    (hf : (s.lane l).filter = some f) (h : s.Unreached l f cutoff) (n : Nat) : reportCrossings l cutoff n s = s := by
  cases n with
  | zero => rfl
  | succ n => rw [reportCrossings, crossingBy_of_unreached hf h]

/-- A crossing is taken, and then those that the decoder names after it are reported. -/
theorem reportCrossings_succ {s : State} {l : Lane} {f : InputFilter} {n : Nat} {cutoff : Moment}
    (h : s.crossingBy l cutoff = some (f, n)) (k : Nat) :
    reportCrossings l cutoff (k + 1) s = reportCrossings l cutoff k (takeCrossing l f.mark f.firstEdge n s) := by
  rw [reportCrossings, h]

/-- A crossing leaves the filter as it was, but for the note of a mark reported stuck (R55). -/
theorem takeCrossing_filter {s : State} {l : Lane} {f : InputFilter} (hf : (s.lane l).filter = some f) (n : Nat) :
    ((takeCrossing l f.mark f.firstEdge n s).lane l).filter =
      some { f with stuckReported := f.stuckReported || f.mark } := by
  rw [← State.receiver_fst] at hf ⊢
  cases hm : f.mark with
  | true =>
    rw [show takeCrossing l true f.firstEdge n s = lineStuck l f.firstEdge s from rfl, lineStuck_receiver, hf]
    simp [← hm]
  | false =>
    rw [show takeCrossing l false f.firstEdge n s = spaceCrossing l n s from rfl, spaceCrossing_filter, hf, Bool.or_false,
      ← hm]

theorem reportCrossings_filter {s : State} {l : Lane} {f : InputFilter} (hf : (s.lane l).filter = some f)
    (cutoff : Moment) (n : Nat) :
    ∃ b, ((reportCrossings l cutoff n s).lane l).filter = some { f with stuckReported := b } := by
  induction n generalizing s f with
  | zero => exact ⟨f.stuckReported, hf⟩
  | succ n ih =>
    unfold reportCrossings
    split
    · exact ⟨f.stuckReported, hf⟩
    · rename_i f' m hcross
      obtain ⟨hf', -, -, -⟩ := crossingBy_eq_some.mp hcross
      rw [hf] at hf'
      cases hf'
      obtain ⟨b, hb⟩ := ih (takeCrossing_filter hf m)
      exact ⟨b, hb⟩

theorem crossingsNow_of_unreached {s : State} {l : Lane} {f : InputFilter} (hf : (s.lane l).filter = some f)
    (h : s.Unreached l f s.clock) : crossingsNow l s = s := by
  unfold crossingsNow
  rw [hf]
  dsimp only
  split
  · exact reportCrossings_of_unreached hf h _
  · rfl

theorem crossingsNow_of_excursion {s : State} {l : Lane} {f : InputFilter} (hf : (s.lane l).filter = some f)
    (h : f.excursion.isSome) : crossingsNow l s = s := by
  unfold crossingsNow
  rw [hf]
  dsimp only
  split
  · rename_i hnone; rw [hnone] at h; cases h
  · rfl

/-- The first crossing due now is taken, and at most three after it. -/
theorem crossingsNow_of_crossing {s : State} {l : Lane} {f : InputFilter} {n : Nat}
    (hcross : s.crossingBy l s.clock = some (f, n)) (he : f.excursion = none) :
    crossingsNow l s = reportCrossings l s.clock 3 (takeCrossing l f.mark f.firstEdge n s) := by
  obtain ⟨hf, -, -, -⟩ := crossingBy_eq_some.mp hcross
  unfold crossingsNow
  rw [hf]
  dsimp only
  rw [he]
  exact reportCrossings_succ hcross 3

theorem crossingsNow_filter {s : State} {l : Lane} {f : InputFilter} (hf : (s.lane l).filter = some f) :
    ∃ b, ((crossingsNow l s).lane l).filter = some { f with stuckReported := b } := by
  unfold crossingsNow
  rw [hf]
  dsimp only
  split
  · exact reportCrossings_filter hf _ _
  · exact ⟨f.stuckReported, hf⟩

/-! ## Confirmed transitions -/

/-- The next interval is handed when its first edge lies in no period of blinding (R26, R33). -/
theorem handsFrom_eq (x : LaneState) (f : InputFilter) (e : Moment) :
    handsFrom x f e = decide (x.blind = false ∧ ∀ w ∈ f.unblinded, w < e) := by
  unfold handsFrom
  cases x.blind <;> cases f.unblinded <;> simp

theorem handedLength_eq (x : LaneState) (f : InputFilter) (e : Moment) :
    handedLength x f e = if f.handed = true ∧ x.blind = false then some (e - f.firstEdge) else none := by
  unfold handedLength
  simp only [Bool.and_eq_true, Bool.not_eq_true']

/-- A confirmed transition is the manual's one, and the crossings it leads to are reported (R25, R26, R39). -/
theorem takeConfirmed_eq {s : State} {l : Lane} {f : InputFilter} (hf : (s.lane l).filter = some f) (e : Moment) :
    takeConfirmed l e s = crossingsNow l (transition l f e s) := by
  unfold takeConfirmed transition
  simp only [hf, handedLength_eq, InputFilter.confirmed, State.modLane_def, handsFrom_eq]

theorem onlyLane_transition (l : Lane) (f : InputFilter) (e : Moment) (s : State) :
    OnlyLane l s (transition l f e s) :=
  (onlyLane_setLane l _ s).trans (onlyLane_takeTransition l _ _ _ _)

/-- The new level is the confirmed one, with its own edge, and no excursion is pending (R25). -/
theorem transition_filter (l : Lane) (f : InputFilter) (e : Moment) (s : State) :
    ((transition l f e s).lane l).filter = some (f.confirmed (handsFrom (s.lane l) f e) e) := by
  unfold transition
  dsimp only
  rw [← State.receiver_fst, takeTransition_filter, State.receiver_setLane, handsFrom_eq]
  rfl

theorem confirmHeld_of_held {s : State} {l : Lane} {e : Moment} (h : (s.lane l).heldExcursion s.clock = some e) :
    confirmHeld l s = takeConfirmed l e (reportCrossings l e crossingChain s) := by
  unfold confirmHeld confirmExcursion
  rw [h]

theorem confirmHeld_of_not_held {s : State} {l : Lane} (h : (s.lane l).heldExcursion s.clock = none) :
    confirmHeld l s = s := by
  unfold confirmHeld
  rw [h]

/-- An excursion that has not held long enough, or none, is not held. -/
theorem heldExcursion_eq_none {x : LaneState} {now : Moment} {f : InputFilter} (hf : x.filter = some f)
    (h : ∀ e, f.excursion = some e → now < e + x.settings.glitchWidth) : x.heldExcursion now = none := by
  rw [Option.eq_none_iff_forall_ne_some]
  intro e he
  obtain ⟨f', hf', hexc, hle⟩ := heldExcursion_eq_some.mp he
  rw [hf] at hf'
  cases hf'
  exact absurd hle (Nat.not_le.mpr (h e hexc))

/-- A held excursion is settled: its level is confirmed at its own edge, and none is pending (R25). -/
theorem confirmHeld_filter {s : State} {l : Lane} {f : InputFilter} {e : Moment} (hf : (s.lane l).filter = some f)
    (h : (s.lane l).heldExcursion s.clock = some e) :
    ∃ g, ((confirmHeld l s).lane l).filter = some g ∧ g.mark = !f.mark ∧ g.firstEdge = e ∧ g.excursion = none := by
  obtain ⟨b, hreported⟩ := reportCrossings_filter hf e crossingChain
  rw [confirmHeld_of_held h, takeConfirmed_eq hreported]
  obtain ⟨b', hsettled⟩ := crossingsNow_filter (transition_filter l { f with stuckReported := b } e _)
  exact ⟨_, hsettled, rfl, rfl, rfl⟩

/-- With no crossing to report first, a held excursion is a transition and what it leads to. -/
theorem confirmHeld_of_unreached {s u : State} {l : Lane} {g : InputFilter} {e : Moment} {k : Nat}
    (h : (s.lane l).heldExcursion s.clock = some e)
    (hu : reportCrossings l e crossingChain s = reportCrossings l e k u) (hg : (u.lane l).filter = some g)
    (hunreached : u.Unreached l g e) : confirmHeld l s = crossingsNow l (transition l g e u) := by
  rw [confirmHeld_of_held h, hu, reportCrossings_of_unreached hg hunreached, takeConfirmed_eq hg]

/-- A transition after which the decoder names nothing already passed is all that happens. -/
theorem crossingsNow_transition {l : Lane} {g : InputFilter} {e : Moment} {u : State}
    (h : ∀ g' n, ((transition l g e u).lane l).filter = some g' →
      (transition l g e u).namedThreshold l g'.mark = some n →
      u.clock < g'.firstEdge + n ∨ g'.mark = true ∧ g'.stuckReported = true) :
    crossingsNow l (transition l g e u) = transition l g e u := by
  have hfilter := transition_filter l g e u
  refine crossingsNow_of_unreached hfilter fun n hn => ?_
  rw [(onlyLane_transition l g e u).clock]
  exact h _ n hfilter hn

/-- Settles O32: the crossing before the edge, if any, then the transition (`confirmHeld_of_unreached`). -/
theorem transitionConfirmed : Obligations.TransitionConfirmed := by
  intro l s f hf x unreached quiet
  refine ⟨fun e hexc hle => ?_, fun hearly => ?_⟩
  · have hheld : (s.lane l).heldExcursion s.clock = some e := heldExcursion_eq_some.mpr ⟨f, hf, hexc, hle⟩
    refine ⟨?_, fun hunreached => ?_, fun n hn hreached hnew => ?_⟩
    · obtain ⟨g, hg, hmark, hedge, hnone⟩ := confirmHeld_filter hf hheld
      refine ⟨chooseEvent (confirmHeld l s), g, rfl, by rw [chooseEvent_lane]; exact hg, hmark, hedge, hnone,
        fun l' hne => ?_⟩
      rw [chooseEvent_lane, (onlyLane_confirmHeld l s).lanes l' hne]
    · have hconfirm := confirmHeld_of_unreached hheld rfl hf hunreached
      refine ⟨?_, fun hquiet => ?_⟩
      · rw [exec_transitionConfirm, hconfirm]
        rfl
      · rw [exec_transitionConfirm, hconfirm, crossingsNow_transition hquiet]
    · intro u g
      have hg : (u.lane l).filter = some g := takeCrossing_filter hf n
      have hclock : u.clock = s.clock := (onlyLane_takeCrossing l _ _ _ s).clock
      refine ⟨hg, fun hunreached => ?_⟩
      have hconfirm := confirmHeld_of_unreached hheld
        (reportCrossings_succ (crossingBy_eq_some.mpr ⟨hf, hn, hreached, hnew⟩) 3) hg hunreached
      refine ⟨?_, fun hquiet => ?_⟩
      · rw [exec_transitionConfirm, hconfirm]
        rfl
      · rw [exec_transitionConfirm, hconfirm, crossingsNow_transition (hclock ▸ hquiet)]
  · rw [exec_transitionConfirm, confirmHeld_of_not_held (heldExcursion_eq_none hf hearly)]

/-! ## Changes of the pin -/

/-- An excursion is pending exactly when the filter follows one. -/
theorem excursionPending_eq {x : LaneState} {f : InputFilter} (hf : x.filter = some f) :
    x.excursionPending = f.excursion.isSome := by
  unfold LaneState.excursionPending
  rw [hf]

theorem takePinEdge_same {l : Lane} {high : Bool} {s : State} (h : (s.lane l).pinHigh = high) :
    takePinEdge l high s = s := if_pos h

/-- An excursion still pending once a held one is confirmed is dropped, which releases a crossing held back (R27). -/
theorem takePinEdge_drops {l : Lane} {high : Bool} {s u : State} (h : (s.lane l).pinHigh ≠ high)
    (hu : confirmHeld l (s.setLane l { s.lane l with pinHigh := high }) = u)
    (hpending : (u.lane l).excursionPending = true) :
    takePinEdge l high s = crossingsNow l (setExcursion l none u) := by
  unfold takePinEdge
  rw [if_neg h, State.modLane_def]
  dsimp only
  rw [hu, if_pos hpending]

/-- With none pending the change begins one, which is confirmed at the edge when glitch_width is 0 (R25). -/
theorem takePinEdge_begins {l : Lane} {high : Bool} {s u : State} (h : (s.lane l).pinHigh ≠ high)
    (hu : confirmHeld l (s.setLane l { s.lane l with pinHigh := high }) = u)
    (hpending : (u.lane l).excursionPending = false) :
    takePinEdge l high s = confirmHeld l (setExcursion l (some u.clock) u) := by
  unfold takePinEdge
  rw [if_neg h, State.modLane_def]
  dsimp only
  rw [hu, if_neg (by rw [hpending]; exact Bool.false_ne_true)]

/-- An excursion begun now is not held while glitch_width is above 0. -/
theorem confirmHeld_begun {l : Lane} {s : State} (h : 0 < (s.lane l).settings.glitchWidth) :
    confirmHeld l (setExcursion l (some s.clock) s) = setExcursion l (some s.clock) s := by
  refine confirmHeld_of_not_held ?_
  rw [Option.eq_none_iff_forall_ne_some]
  intro e he
  obtain ⟨f, hf, hexc, hle⟩ := heldExcursion_eq_some.mp he
  simp only [setExcursion, State.modLane_lane_self, State.modLane_clock, Option.map_eq_some_iff] at hf hle
  obtain ⟨g, -, rfl⟩ := hf
  cases hexc
  exact absurd hle (Nat.not_le.mpr (Nat.lt_add_of_pos_right h))

theorem setExcursion_setLane (l : Lane) (e : Option Moment) (x : LaneState) (s : State) :
    setExcursion l e (s.setLane l x) =
      s.setLane l { x with filter := x.filter.map fun f => { f with excursion := e } } :=
  State.setLane_modLane s l x _

/-- A stopped input side has no excursion to confirm, and a change of the pin begins none (R22, R25). -/
theorem takePinEdge_stopped {l : Lane} {high : Bool} {s : State} (h : (s.lane l).pinHigh ≠ high)
    (hnone : (s.lane l).filter = none) :
    takePinEdge l high s = s.setLane l { s.lane l with pinHigh := high } := by
  have hunheld : ∀ u : State, (u.lane l).filter = none → confirmHeld l u = u := fun u hu =>
    confirmHeld_of_not_held (by unfold LaneState.heldExcursion; rw [hu])
  have hfilter : ((s.setLane l { s.lane l with pinHigh := high }).lane l).filter = none := by
    rw [State.setLane_lane_self]; exact hnone
  have hstopped : ∀ e, setExcursion l e (s.setLane l { s.lane l with pinHigh := high }) =
      s.setLane l { s.lane l with pinHigh := high } := by
    intro e
    rw [setExcursion_setLane, hnone]
    exact congrArg (fun g => s.setLane l { s.lane l with pinHigh := high, filter := g }) hnone.symm
  rw [takePinEdge_begins h (hunheld _ hfilter) (by unfold LaneState.excursionPending; rw [hfilter]), hstopped,
    hunheld _ hfilter]

/-- Settles O31: the change by what the filter follows before it, none, a pending or a held excursion. -/
theorem pinEdgeFiltered : Obligations.PinEdgeFiltered := by
  intro l high s x moved follow
  refine ⟨fun hsame => ?_, fun hmove hnone => ?_, fun f hmove hf => ?_⟩
  · rw [exec_pinEdge, takePinEdge_same hsame]
  · rw [exec_pinEdge, takePinEdge_stopped hmove hnone]
  · have hmoved : moved.lane l = { x with pinHigh := high } := State.setLane_lane_self s l _
    have hfilter : (moved.lane l).filter = some f := by rw [hmoved]; exact hf
    have hwidth : (moved.lane l).settings = x.settings := by rw [hmoved]
    have hpending : (moved.lane l).excursionPending = f.excursion.isSome := excursionPending_eq hfilter
    have hfollow : ∀ e, setExcursion l e moved = follow f e := by
      intro e
      rw [setExcursion_setLane, hf]
      rfl
    have hunheld (h : ∀ e, f.excursion = some e → s.clock < e + x.settings.glitchWidth) : confirmHeld l moved = moved :=
      confirmHeld_of_not_held (heldExcursion_eq_none hfilter (by rw [hwidth]; exact h))
    refine ⟨fun hidle hwide => ?_, fun hidle hzero => ?_, fun e hexc => ⟨fun hearly => ?_, fun hle hwide => ?_⟩⟩
    · rw [exec_pinEdge, takePinEdge_begins hmove (hunheld (by simp [hidle])) (by rw [hpending, hidle]; rfl),
        confirmHeld_begun (by rw [hwidth]; exact hwide), hfollow]
      rfl
    · rw [exec_pinEdge, takePinEdge_begins hmove (hunheld (by simp [hidle])) (by rw [hpending, hidle]; rfl), hfollow]
      rfl
    · have hearly' : ∀ e', f.excursion = some e' → s.clock < e' + x.settings.glitchWidth := by
        intro e' he'
        rw [hexc] at he'
        cases he'
        exact hearly
      rw [exec_pinEdge, takePinEdge_drops hmove (hunheld hearly') (by rw [hpending, hexc]; rfl), hfollow]
      rfl
    · intro u
      have hheld : (moved.lane l).heldExcursion moved.clock = some e :=
        heldExcursion_eq_some.mpr ⟨f, hfilter, hexc, by rw [hwidth]; exact hle⟩
      obtain ⟨g, hg, -, -, hsettled⟩ := confirmHeld_filter hfilter hheld
      have hclock : u.clock = s.clock := (onlyLane_confirmHeld l moved).clock
      have hsettings : (u.lane l).settings = x.settings :=
        (congrArg Prod.fst (confirmHeld_use l moved)).trans hwidth
      rw [exec_pinEdge, takePinEdge_begins hmove (u := u) rfl (by rw [excursionPending_eq hg, hsettled]; rfl),
        confirmHeld_begun (by rw [hsettings]; exact hwide), hclock]
      rfl

end Sys2Proof.Machine
end

section
/-! What a threshold crossing does in each state of the decoder (R27, R43, R48 to R60): the model's parts against the
manual's updates, and the decoder at rest after them. -/

namespace Sys2Proof.Machine

open Sys2Proof.Claims

/-! ## The model's parts as the manual's updates -/

/-- The decoder's entry into HUNT is the manual's, the start of a deferred transmission with it (R34, R96). -/
theorem enterHunt_eq_hunting (l : Lane) (s : State) : enterHunt l s = hunting l s := by
  have hseq : ((s.modLane l fun x => { x with decoder := .hunt s.clock }).lane l).seq = (s.lane l).seq := by simp
  unfold enterHunt huntEntered hunting
  rw [hseq]
  cases hs : (s.lane l).seq.state
  case defer =>
    cases ha : (s.lane l).seq.active with
    | none =>
      unfold startTransmission
      rw [hseq, ha]
      rfl
    | some r => exact startTransmission_eq_onAir (by rw [hseq, ha]) false
  all_goals rfl

theorem frameError_eq_frameInError (l : Lane) (c : Code) (i : SlotId) (start : Moment) (part : PartialFrame) (s : State) :
    frameError l c i start part s = frameInError l c i start part s := by
  have hsettings : ((bump l .framesBad s).lane l).settings = (s.lane l).settings := by rw [bump_lane, if_pos rfl]
  unfold frameError frameInError
  dsimp only
  rw [hsettings]
  rfl

theorem asked_eq_askBus (c : BusClient) (t : Transaction) (s : State) : asked c t s = askBus c t s := by
  unfold asked askBus
  cases s.busSlot c <;> rfl

theorem finishCapture_eq_passed (l : Lane) (w : Word) (start : Moment) (c : Code) (pairs : List CapturePair) (s : State) :
    finishCapture l w start c pairs s = passed l w start c pairs s := by
  unfold finishCapture passed
  rw [asked_eq_askBus]
  rfl

/-- The claim for a capture buffer comes to what the manual says (R41, R43, R60). -/
theorem claimCapture_of_claimed {l : Lane} {s u : State} {b : Option Word} (h : Claimed l s b u) :
    claimCapture l s = (b, u) := by
  unfold claimCapture
  rcases h with ⟨hon, hfree, w, rest, hlist, rfl, rfl⟩ | ⟨hon, hno, rfl, rfl⟩ | ⟨hoff, rfl, rfl⟩
  · rw [if_pos hon, takeBuffer_eq_some.mpr ⟨rest, hlist, hfree, rfl⟩]
  · have hnone : takeBuffer l s = none := by
      rw [Option.eq_none_iff_forall_ne_some]
      rintro ⟨w, t⟩ htake
      obtain ⟨rest, hlist, hfree, -⟩ := takeBuffer_eq_some.mp htake
      rcases hno with hempty | hbusy
      · rw [hempty] at hlist; cases hlist
      · rw [hfree] at hbusy; cases hbusy
    rw [if_pos hon, hnone]
  · rw [if_neg (by rw [hoff]; exact Bool.false_ne_true)]

theorem claimed_settings {l : Lane} {s u : State} {b : Option Word} (h : Claimed l s b u) :
    (u.lane l).settings = (s.lane l).settings := by
  have huse := congrArg Prod.fst (claimCapture_use l s)
  rwa [claimCapture_of_claimed h] at huse

/-- A stuck mark: the buffer in hand returns to the list, the notice enters the outbox, and the decoder drains (R55). -/
theorem lineStuck_eq {l : Lane} {s : State} {f : InputFilter} (hf : (s.lane l).filter = some f) (edge : Moment) :
    lineStuck l edge s =
      let notified := enterOutbox l
        { kind := .notice, status := .lineStuck, target := (s.lane l).settings.defaultEq, profile := 0, bitCount := 0,
          payload := 0, phase := .single, wake := false, repeatCount := 0, tag := 0, aux := 0,
          timestamp := BitVec.ofNat 32 edge, lost := 0 }
        { s.setLane l { s.lane l with filter := some { f with stuckReported := true } } with
          captureList := s.captureList ++ (s.lane l).decoder.buffer.toList }
      notified.setLane l { notified.lane l with decoder := .drain .stuck } := by
  simp only [lineStuck, abandonWork_eq, State.modLane_def, State.setCaptureList_setLane, State.setCaptureList_lane,
    State.setLane_lane_self, hf, Option.map_some]
  rfl

/-! ## Thresholds named, by the decoder's state (R39) -/

/-- What each state of the decoder names for a space. -/
def State.spaceNamed (s : State) (l : Lane) : Decoder → Option Nat
  | .spaceCheck _ _ cs => some (spaceThreshold s cs)
  | .symbols _ i scale _ => some ((s.profile i).endSilence * scale / 256)
  | .repeatTail _ i scale => some ((s.profile i).endSilence * scale / 256)
  | .drain (.profile n) => some n
  | .drain .settle => some (s.lane l).settings.settleSilence
  | .capture _ => some (s.lane l).settings.settleSilence
  | .off | .hunt _ | .leader _ | .drain .stuck | .blind => none

/-- The states in which a mark is measured against the stuck-mark limit (R55). -/
def Decoder.limitsMarks : Decoder → Bool
  | .hunt _ | .leader _ | .symbols _ _ _ _ | .repeatTail _ _ _ | .drain (.profile _) | .drain .settle | .capture _ => true
  | .off | .spaceCheck _ _ _ | .drain .stuck | .blind => false

theorem namedThreshold_eq {s : State} {l : Lane} {d : Decoder} (h : (s.lane l).decoder = d) (mark : Bool) :
    s.namedThreshold l mark =
      if mark then (if d.limitsMarks then some 65535 else none) else s.spaceNamed l d := by
  unfold State.namedThreshold
  dsimp only
  rw [h]
  cases d with
  | drain k => cases k <;> cases mark <;> rfl
  | off | hunt _ | leader _ | spaceCheck _ _ _ | symbols _ _ _ _ | repeatTail _ _ _ | capture _ | blind =>
    cases mark <;> rfl

theorem namedThreshold_space {s : State} {l : Lane} {d : Decoder} (h : (s.lane l).decoder = d) :
    s.namedThreshold l false = s.spaceNamed l d := namedThreshold_eq h false

theorem namedThreshold_mark {s : State} {l : Lane} (hoff : (s.lane l).decoder ≠ .off)
    (hblind : (s.lane l).decoder ≠ .blind) (hstuck : (s.lane l).decoder ≠ .drain .stuck)
    (hcheck : ∀ a b c, (s.lane l).decoder ≠ .spaceCheck a b c) : s.namedThreshold l true = some 65535 := by
  rw [namedThreshold_eq rfl, if_pos rfl]
  cases hd : (s.lane l).decoder with
  | off => exact absurd hd hoff
  | blind => exact absurd hd hblind
  | spaceCheck a b c => exact absurd hd (hcheck a b c)
  | drain k =>
    cases k with
    | stuck => exact absurd hd hstuck
    | settle | profile n => rfl
  | hunt _ | leader _ | symbols _ _ _ _ | repeatTail _ _ _ | capture _ => rfl

/-! ## The decoder at rest -/

/-- A decoder that names no threshold for a space: it is in HUNT or BLIND (R39). -/
def Decoder.Rests (d : Decoder) : Prop := (∃ since, d = .hunt since) ∨ d = .blind

theorem unnamed_of_rests {s : State} {l : Lane} (h : (s.receiver l).2.Rests) : s.namedThreshold l false = none := by
  rcases h with ⟨since, h⟩ | h
  · exact namedThreshold_space (d := .hunt since) h
  · exact namedThreshold_space (d := .blind) h

theorem enterHunt_rests (l : Lane) (s : State) : ((enterHunt l s).receiver l).2.Rests := by
  rcases enterHunt_receiver l s with h | h <;> rw [h]
  · exact .inl ⟨_, rfl⟩
  · exact .inr rfl

theorem takeRepeatCode_rests {l : Lane} {s : State} (h : (s.receiver l).2.Rests) (i : SlotId) (start : Moment) :
    ((takeRepeatCode l i start s).receiver l).2.Rests := by
  rwa [takeRepeatCode_receiver]

/-- With the decoder at rest a space has no threshold to reach. -/
theorem reportCrossings_of_rests {s : State} {l : Lane} {f : InputFilter} (hf : (s.lane l).filter = some f)
    (hspace : f.mark = false) (h : (s.receiver l).2.Rests) (cutoff : Moment) (n : Nat) :
    reportCrossings l cutoff n s = s :=
  reportCrossings_of_unreached hf (.of_unnamed (by rw [hspace]; exact unnamed_of_rests h)) n

/-! ## What the decoder leaves of work it abandons -/

theorem setDecoder_lane (l : Lane) (d : Decoder) (s : State) :
    (setDecoder l d s).lane l = { s.lane l with decoder := d } := State.modLane_lane_self s l _

theorem enterHunt_setDecoder (l : Lane) (d : Decoder) (s : State) : enterHunt l (setDecoder l d s) = enterHunt l s := by
  unfold enterHunt setDecoder
  rw [State.modLane_modLane]
  rfl

theorem askBus_modLane (c : BusClient) (t : Transaction) (l : Lane) (g : LaneState → LaneState) (s : State) :
    askBus c t (s.modLane l g) = (askBus c t s).modLane l g := by
  unfold askBus
  rw [State.modLane_busSlot]
  split <;> rfl

theorem finishCapture_setDecoder (l : Lane) (w : Word) (start : Moment) (c : Code) (pairs : List CapturePair)
    (d : Decoder) (s : State) :
    finishCapture l w start c pairs (setDecoder l d s) = setDecoder l d (finishCapture l w start c pairs s) := by
  unfold finishCapture setDecoder
  simp only [← askBus_modLane, State.modLane_modLane]
  rfl

/-- A capture's end, whatever the decoder was set to before it enters HUNT (R57). -/
theorem enterHunt_finishCapture (l : Lane) (w : Word) (start : Moment) (c : Code) (pairs : List CapturePair)
    (d : Decoder) (s : State) :
    enterHunt l (finishCapture l w start c pairs (setDecoder l d s)) = hunting l (passed l w start c pairs s) := by
  rw [finishCapture_setDecoder, enterHunt_setDecoder, enterHunt_eq_hunting, finishCapture_eq_passed]

/-! ## Crossings of a space, by the decoder's state -/

theorem spaceCrossing_drain {l : Lane} {s : State} {k : DrainKind} (h : (s.lane l).decoder = .drain k) (n : Nat) :
    spaceCrossing l n s = enterHunt l s := by
  unfold spaceCrossing
  rw [h]

theorem spaceCrossing_symbols {l : Lane} {s : State} {start : Moment} {i : SlotId} {scale : Nat} {part : PartialFrame}
    (h : (s.lane l).decoder = .symbols start i scale part) (n : Nat) :
    (∀ last, silence (s.profile i) part = .ok last → spaceCrossing l n s = frameEnds l i start last s) ∧
      (∀ last, silence (s.profile i) part = .broken last →
        spaceCrossing l n s = enterHunt l (frameInError l .broken i start last s)) ∧
      ∀ last, silence (s.profile i) part = .long last →
        spaceCrossing l n s = enterHunt l (frameInError l .long i start last s) := by
  refine ⟨fun last hlast => ?_, fun last hlast => ?_, fun last hlast => ?_⟩ <;>
    simp only [spaceCrossing, h, hlast, brokenAtEnd, frameError_eq_frameInError]

theorem frameEnds_good {l : Lane} {s : State} {i : SlotId} {part : PartialFrame}
    (h : (s.profile i).bitsMin ≤ part.count) (start : Moment) :
    frameEnds l i start part s =
      enterHunt l
        (takeGoodFrame l { profile := i, bitCount := part.count, payload := part.payload, start := start }
          (bump l .framesGood s)) := if_neg (Nat.not_lt.mpr h)

theorem frameEnds_short {l : Lane} {s : State} {i : SlotId} {part : PartialFrame}
    (h : part.count < (s.profile i).bitsMin) (start : Moment) :
    frameEnds l i start part s = enterHunt l (frameInError l .short i start part s) := by
  rw [← frameError_eq_frameInError]
  exact if_pos h

theorem spaceCrossing_repeatTail {l : Lane} {s : State} {start : Moment} {i : SlotId} {scale : Nat}
    (h : (s.lane l).decoder = .repeatTail start i scale) (n : Nat) :
    spaceCrossing l n s = takeRepeatCode l i start (enterHunt l s) := by
  unfold spaceCrossing
  rw [h]

theorem spaceCrossing_capture {l : Lane} {s : State} {w : CaptureWork} {m : Nat}
    (h : (s.lane l).decoder = .capture w) (hm : w.openMark = some m) (n : Nat) :
    spaceCrossing l n s =
      enterHunt l (finishCapture l w.buffer w.start .ok (w.pairs ++ [⟨m, (s.lane l).settings.settleSilence⟩])
        (setDecoder l (.hunt s.clock) s)) := by
  simp only [spaceCrossing, h, hm]

/-- What an unclassified burst whose space still runs goes on as: CAPTURE with the buffer claimed, DRAIN without one
(R43 (1)). -/
def runningWork (start : Moment) (m : Nat) : Option Word → Decoder
  | some w => .capture { buffer := w, start := start, pairs := [], openMark := some m }
  | none => .drain .settle

/-- A burst that SPACE_CHECK leaves unclassified goes on, or has ended with the threshold at settle silence or beyond
(R43). -/
theorem spaceCrossing_spaceCheck {l : Lane} {s u : State} {start : Moment} {m : Nat} {cs : List Candidate}
    {b : Option Word} (h : (s.lane l).decoder = .spaceCheck start m cs) (hclaim : Claimed l s b u) (n : Nat) :
    (n < (s.lane l).settings.settleSilence → spaceCrossing l n s = setDecoder l (runningWork start m b) u) ∧
      ((s.lane l).settings.settleSilence ≤ n → spaceCrossing l n s = enterHunt l (single l b start m u)) := by
  have hclaimed := claimCapture_of_claimed hclaim
  have hsettings : (u.lane l).settings = (s.lane l).settings := claimed_settings hclaim
  have hcross : spaceCrossing l n s = unclassifiedSpace l start m n none s := by
    unfold spaceCrossing
    rw [h]
  rw [hcross]
  unfold unclassifiedSpace
  dsimp only
  rw [hclaimed]
  constructor
  · intro hlt
    rw [if_pos hlt]
    cases b <;> rfl
  · intro hle
    rw [if_neg (Nat.not_lt.mpr hle)]
    cases b with
    | none => rfl
    | some w => simp only [finishCapture_eq_passed, single, hsettings]

/-- Work that goes on ends, when its space reaches settle silence, as the burst that had ended at once does
(R43, R54, R57). -/
theorem spaceCrossing_runningWork (l : Lane) (start : Moment) (m : Nat) (b : Option Word) (u : State) (n : Nat) :
    spaceCrossing l n (setDecoder l (runningWork start m b) u) = enterHunt l (single l b start m u) := by
  cases b with
  | none => rw [spaceCrossing_drain (k := .settle) (by rw [setDecoder_lane]; rfl), enterHunt_setDecoder]; rfl
  | some w =>
    rw [spaceCrossing_capture (w := { buffer := w, start := start, pairs := [], openMark := some m })
      (by rw [setDecoder_lane]; rfl) rfl, setDecoder_lane]
    rw [finishCapture_setDecoder, enterHunt_setDecoder, finishCapture_setDecoder, enterHunt_setDecoder,
      finishCapture_eq_passed]
    rfl

theorem runningWork_named (l : Lane) (start : Moment) (m : Nat) (b : Option Word) (u : State) :
    (setDecoder l (runningWork start m b) u).namedThreshold l false = some (u.lane l).settings.settleSilence := by
  have hsettings : ((setDecoder l (runningWork start m b) u).lane l).settings = (u.lane l).settings := by
    rw [setDecoder_lane]
  rw [namedThreshold_space (by rw [setDecoder_lane]), ← hsettings]
  cases b <;> rfl

/-! ## The command -/

section Reached

variable {l : Lane} {s : State} {f : InputFilter} {n : Nat}

/-- A crossing that leads to no further one is what `takeCrossing` makes of it (R27). -/
theorem exec_crossing (hcross : s.crossingBy l s.clock = some (f, n)) (he : f.excursion = none)
    (hquiet : ∀ g, ((takeCrossing l f.mark f.firstEdge n s).lane l).filter = some g →
      (takeCrossing l f.mark f.firstEdge n s).Unreached l g s.clock) :
    exec (.thresholdCrossing l) s = .next (chooseEvent (takeCrossing l f.mark f.firstEdge n s)) := by
  obtain ⟨hf, -, -, -⟩ := crossingBy_eq_some.mp hcross
  have hfilter := takeCrossing_filter hf n
  rw [exec_thresholdCrossing, crossingsNow_of_crossing hcross he,
    reportCrossings_of_unreached hfilter (hquiet _ hfilter)]

/-- A space's crossing after which the decoder rests leads to no further one. -/
theorem exec_spaceCrossing_rests (hcross : s.crossingBy l s.clock = some (f, n)) (he : f.excursion = none)
    (hspace : f.mark = false) {t : State} (ht : spaceCrossing l n s = t) (hrests : (t.receiver l).2.Rests) :
    exec (.thresholdCrossing l) s = .next (chooseEvent t) := by
  obtain ⟨hf, -, -, -⟩ := crossingBy_eq_some.mp hcross
  have htake : takeCrossing l f.mark f.firstEdge n s = t := by rw [hspace]; exact ht
  have hfilter := takeCrossing_filter hf n
  rw [htake] at hfilter
  rw [exec_thresholdCrossing, crossingsNow_of_crossing hcross he, htake,
    reportCrossings_of_rests hfilter (by exact hspace) hrests]

theorem exec_spaceCrossing_hunts (hcross : s.crossingBy l s.clock = some (f, n)) (he : f.excursion = none)
    (hspace : f.mark = false) {u : State} (hu : spaceCrossing l n s = enterHunt l u) :
    exec (.thresholdCrossing l) s = .next (chooseEvent (hunting l u)) := by
  rw [← enterHunt_eq_hunting]
  exact exec_spaceCrossing_rests hcross he hspace hu (enterHunt_rests l u)

end Reached

/-- SPACE_CHECK's crossing, with work that goes on past settle silence ended at once (R43, R57). -/
theorem exec_crossing_spaceCheck {l : Lane} {s u : State} {f : InputFilter} {start : Moment} {m : Nat}
    {cs : List Candidate} {b : Option Word} (hd : (s.lane l).decoder = .spaceCheck start m cs)
    (hcross : s.crossingBy l s.clock = some (f, spaceThreshold s cs)) (he : f.excursion = none)
    (hspace : f.mark = false) (hclaim : Claimed l s b u) :
    (f.firstEdge + (s.lane l).settings.settleSilence ≤ s.clock →
        exec (.thresholdCrossing l) s = .next (chooseEvent (hunting l (single l b start m u)))) ∧
      (s.clock < f.firstEdge + (s.lane l).settings.settleSilence →
        exec (.thresholdCrossing l) s = .next (chooseEvent (setDecoder l (runningWork start m b) u))) := by
  obtain ⟨hf, -, hreached, -⟩ := crossingBy_eq_some.mp hcross
  obtain ⟨hgoes, hends⟩ := spaceCrossing_spaceCheck hd hclaim (spaceThreshold s cs)
  have hsettings : (u.lane l).settings = (s.lane l).settings := claimed_settings hclaim
  have hfilter := takeCrossing_filter hf (spaceThreshold s cs)
  have hgone : spaceThreshold s cs < (s.lane l).settings.settleSilence →
      takeCrossing l f.mark f.firstEdge (spaceThreshold s cs) s = setDecoder l (runningWork start m b) u :=
    fun hlt => by rw [hspace]; exact hgoes hlt
  have hnamed : (setDecoder l (runningWork start m b) u).namedThreshold l f.mark =
      some (s.lane l).settings.settleSilence := by
    rw [hspace, runningWork_named, hsettings]
  refine ⟨fun hsettled => ?_, fun hrunning => ?_⟩
  · rcases Nat.lt_or_ge (spaceThreshold s cs) (s.lane l).settings.settleSilence with hlt | hge
    · rw [hgone hlt] at hfilter
      have hagain := crossingBy_eq_some.mpr ⟨hfilter, hnamed, hsettled, by simp [hspace]⟩
      have hended : takeCrossing l f.mark f.firstEdge (s.lane l).settings.settleSilence
          (setDecoder l (runningWork start m b) u) = enterHunt l (single l b start m u) := by
        rw [hspace]
        exact spaceCrossing_runningWork l start m b u _
      have hrest := takeCrossing_filter hfilter (s.lane l).settings.settleSilence
      rw [hended] at hrest
      rw [exec_thresholdCrossing, crossingsNow_of_crossing hcross he, hgone hlt, reportCrossings_succ hagain 2, hended,
        reportCrossings_of_rests hrest hspace (enterHunt_rests l _), enterHunt_eq_hunting]
    · exact exec_spaceCrossing_hunts hcross he hspace (hends hge)
  · have hlt := Nat.lt_of_add_lt_add_left (Nat.lt_of_le_of_lt hreached hrunning)
    rw [hgone hlt] at hfilter
    rw [exec_thresholdCrossing, crossingsNow_of_crossing hcross he, hgone hlt,
      reportCrossings_of_unreached hfilter]
    intro n hn
    rw [hnamed] at hn
    cases hn
    exact .inl hrunning

/-- A mark that reaches the stuck-mark limit: the notice, and the decoder drains until the mark ends (R55). -/
theorem exec_crossing_stuck {l : Lane} {s : State} {f : InputFilter} {n : Nat}
    (hcross : s.crossingBy l s.clock = some (f, n)) (he : f.excursion = none) (hmark : f.mark = true) :
    exec (.thresholdCrossing l) s = .next (chooseEvent (lineStuck l f.firstEdge s)) := by
  have htake : takeCrossing l f.mark f.firstEdge n s = lineStuck l f.firstEdge s := by rw [hmark]; rfl
  have hdrains : ((lineStuck l f.firstEdge s).lane l).decoder = .drain .stuck :=
    congrArg Prod.snd (lineStuck_receiver l f.firstEdge s)
  have hcommand := exec_crossing hcross he
  rw [htake] at hcommand
  refine hcommand fun g _ => .of_unnamed ?_
  rw [namedThreshold_eq hdrains]
  cases g.mark <;> rfl

/-- Settles O35: a crossing by the level and the decoder's state, each through what `takeCrossing` makes of it and the
decoder at rest after it (`exec_spaceCrossing_rests`). -/
theorem thresholdCrossingActs : Obligations.ThresholdCrossingActs := by
  intro l s f hf x ran acts quiet
  refine ⟨?_, fun n he hn hle hnew => ?_, fun he hedge => ⟨?_, fun hspace => ?_⟩⟩
  · rintro (hexc | hquiet)
    · show exec (.thresholdCrossing l) s = _
      rw [exec_thresholdCrossing, crossingsNow_of_excursion hf hexc]
    · show exec (.thresholdCrossing l) s = _
      rw [exec_thresholdCrossing, crossingsNow_of_unreached hf hquiet]
  · intro u hquiet
    exact exec_crossing (crossingBy_eq_some.mpr ⟨hf, hn, hle, hnew⟩) he hquiet
  · intro hmark hnew hoff hblind hstuck hcheck hran notified
    have hcross : s.crossingBy l s.clock = some (f, 65535) :=
      crossingBy_eq_some.mpr ⟨hf, by rw [hmark]; exact namedThreshold_mark hoff hblind hstuck hcheck,
        Nat.add_le_of_le_sub' hedge hran, by simp [hnew]⟩
    exact (exec_crossing_stuck hcross he hmark).trans (by rw [lineStuck_eq hf])
  · have hcross : ∀ n, s.namedThreshold l false = some n → n ≤ ran → s.crossingBy l s.clock = some (f, n) :=
      fun n hn hran => crossingBy_eq_some.mpr
        ⟨hf, by rw [hspace]; exact hn, Nat.add_le_of_le_sub' hedge hran, by simp [hspace]⟩
    refine ⟨fun n hd hran => ?_, fun hd hran => ?_, fun start i scale part hd hran => ?_,
      fun start i scale hd hran => ?_, fun w m hd hm hran => ?_, fun start m cs b u hd hran hclaim => ?_⟩
    · exact exec_spaceCrossing_hunts (hcross n (namedThreshold_space hd) hran) he hspace (spaceCrossing_drain hd n)
    · exact exec_spaceCrossing_hunts (hcross _ (namedThreshold_space hd) hran) he hspace (spaceCrossing_drain hd _)
    · have hreached := hcross _ (namedThreshold_space hd) hran
      obtain ⟨hok, hbroken, hlong⟩ := spaceCrossing_symbols hd ((s.profile i).endSilence * scale / 256)
      exact ⟨fun last hlast hmin =>
          exec_spaceCrossing_hunts hreached he hspace ((hok last hlast).trans (frameEnds_good hmin start)),
        fun last hlast hmin =>
          exec_spaceCrossing_hunts hreached he hspace ((hok last hlast).trans (frameEnds_short hmin start)),
        fun last hlast => exec_spaceCrossing_hunts hreached he hspace (hbroken last hlast),
        fun last hlast => exec_spaceCrossing_hunts hreached he hspace (hlong last hlast)⟩
    · have hrests := takeRepeatCode_rests (enterHunt_rests l s) i start
      rw [enterHunt_eq_hunting] at hrests
      exact exec_spaceCrossing_rests (hcross _ (namedThreshold_space hd) hran) he hspace
        ((spaceCrossing_repeatTail hd _).trans (by rw [enterHunt_eq_hunting])) hrests
    · have hended := spaceCrossing_capture hd hm (s.lane l).settings.settleSilence
      rw [enterHunt_finishCapture, ← enterHunt_eq_hunting] at hended
      exact exec_spaceCrossing_hunts (hcross _ (namedThreshold_space hd) hran) he hspace hended
    · obtain ⟨hsettled, hrunning⟩ :=
        exec_crossing_spaceCheck hd (hcross _ (namedThreshold_space hd) hran) he hspace hclaim
      refine ⟨fun hran' => hsettled (Nat.add_le_of_le_sub' hedge hran'), fun hran' => ?_⟩
      have hcommand := hrunning ((Nat.sub_lt_iff_lt_add' hedge).mp hran')
      refine ⟨fun w hb => ?_, fun hb => ?_⟩ <;> (subst hb; exact hcommand)

end Sys2Proof.Machine
end

section
/-! The bounds of a lane (R37, R62, R83): what each operation of a lane leaves of its settings, its request queue and
the fullness of its outbox. -/

namespace Sys2Proof.Machine

/-! ## What a lane's bounds speak of -/

/-- All that the bounds of a lane speak of: settings, request queue, and whether the outbox holds at most 4 events. -/
def LaneState.limits (x : LaneState) : LaneSettings × RequestQueue × Bool :=
  (x.settings, x.queue, decide (x.outbox.events.length ≤ 4))

/-- What the bounds of lane `l` speak of. -/
def State.limits (s : State) (l : Lane) : LaneSettings × RequestQueue × Bool := (s.lane l).limits

@[simp] theorem State.limits_setLane (l : Lane) (x : LaneState) (s : State) : (s.setLane l x).limits l = x.limits := by
  simp [State.limits]

/-- An update of a lane's state that leaves settings, request queue and outbox alone. -/
@[simp] theorem State.limits_modLane {l : Lane} {f : LaneState → LaneState} (s : State)
    (h : ∀ x, (f x).settings = x.settings ∧ (f x).queue = x.queue ∧ (f x).outbox = x.outbox) :
    (s.modLane l f).limits l = s.limits l := by
  simp [State.limits, LaneState.limits, h]

@[simp] theorem State.limits_modSeq (l : Lane) (f : Sequencer → Sequencer) (s : State) :
    (s.modSeq l f).limits l = s.limits l := State.limits_modLane s fun _ => ⟨rfl, rfl, rfl⟩

@[simp] theorem askBus_limits (c : BusClient) (t : Transaction) (s : State) (l : Lane) :
    (askBus c t s).limits l = s.limits l := by
  rcases askBus_cases c t s with ⟨-, h⟩ | ⟨-, h⟩ <;> rw [h]
  rfl

@[simp] theorem bump_limits (l : Lane) (c : LaneCounter) (s : State) : (bump l c s).limits l = s.limits l := by
  unfold bump; simp

@[simp] theorem returnBuffer_limits (b : Word) (s : State) (l : Lane) : (returnBuffer b s).limits l = s.limits l := rfl

theorem takeBuffer_limits {l : Lane} {b : Word} {s t : State} (h : takeBuffer l s = some (b, t)) :
    t.limits l = s.limits l := by
  obtain ⟨rest, -, -, rfl⟩ := takeBuffer_eq_some.mp h
  rfl

/-! ## Outbox and press tracker -/

/-- A list of fewer than 4 events takes one more, and a full one takes none (R62). -/
@[simp] theorem enterOutbox_limits (l : Lane) (ev : RxEvent) (s : State) :
    (enterOutbox l ev s).limits l = s.limits l := by
  rcases enterOutbox_cases l ev s with ⟨hroom, h⟩ | ⟨-, h⟩ <;> rw [h]
  · have hone : (s.lane l).outbox.events.length + 1 ≤ 4 ↔ (s.lane l).outbox.events.length ≤ 4 := by omega
    simp [State.limits, LaneState.limits, hone]
  · simp [State.limits, LaneState.limits, bump_lane]

@[simp] theorem makeFrame_limits (l : Lane) (ev : RxEvent) (s : State) : (makeFrame l ev s).limits l = s.limits l := by
  unfold makeFrame
  dsimp only
  split <;> simp

@[simp] theorem closePress_limits (l : Lane) (s : State) : (closePress l s).limits l = s.limits l := by
  unfold closePress
  split
  · rfl
  · dsimp only
    split <;> simp

@[simp] theorem countRepeat_limits (l : Lane) (p : Press) (start : Moment) (s : State) :
    (countRepeat l p start s).limits l = s.limits l := by
  unfold countRepeat
  dsimp only
  split <;> simp

@[simp] theorem lookup_limits (l : Lane) (f : GoodFrame) (s : State) : (lookup l f s).2.limits l = s.limits l := by
  unfold lookup
  split
  · split <;> rfl
  · rfl

@[simp] theorem firstEvents_limits (l : Lane) (f : GoodFrame) (v : Verdict) (phase : Option PressPhase) (s : State) :
    (firstEvents l f v phase s).limits l = s.limits l := by
  unfold firstEvents
  split <;> simp

@[simp] theorem openPress_limits (l : Lane) (f : GoodFrame) (v : Verdict) (d e : Bool) (s : State) :
    (openPress l f v d e s).limits l = s.limits l := by
  unfold openPress
  dsimp only
  split <;> simp

@[simp] theorem newPress_limits (l : Lane) (f : GoodFrame) (s : State) : (newPress l f s).limits l = s.limits l := by
  unfold newPress
  dsimp only
  split
  · split <;> simp
  · simp

@[simp] theorem takeFrame_limits (l : Lane) (f : GoodFrame) (s : State) : (takeFrame l f s).limits l = s.limits l := by
  unfold takeFrame
  split
  · simp
  · split <;> simp

@[simp] theorem takeRepeatCode_limits (l : Lane) (i : SlotId) (start : Moment) (s : State) :
    (takeRepeatCode l i start s).limits l = s.limits l := by
  unfold takeRepeatCode
  split
  · simp
  · split <;> simp

/-! ## Transmission -/

@[simp] theorem abandonWork_limits (l : Lane) (s : State) : (abandonWork l s).limits l = s.limits l := by
  unfold abandonWork
  split <;> simp

@[simp] theorem raiseBlind_limits (l : Lane) (count : Bool) (s : State) :
    (raiseBlind l count s).limits l = s.limits l := by
  unfold raiseBlind
  dsimp only
  split
  · simp
  · split <;> simp

@[simp] theorem markOverrun_limits (l : Lane) (s : State) : (markOverrun l s).limits l = s.limits l := by
  unfold markOverrun; simp

@[simp] theorem blindMark_limits (l : Lane) (edge : Moment) (s : State) :
    (blindMark l edge s).limits l = s.limits l := by
  rcases blindMark_cases l edge s with ⟨t, since, -, -, -, -, -, h⟩ | h <;> simp [h]

@[simp] theorem complete_limits (l : Lane) (c : Completion) (s : State) : (complete l c s).limits l = s.limits l :=
  State.limits_modSeq l _ s

@[simp] theorem answer_limits (l : Lane) (e : RequestEntry) (c : Code) (p d : Byte) (s : State) :
    (answer l e c p d s).limits l = s.limits l := complete_limits l _ s

@[simp] theorem finish_limits (l : Lane) (r : ActiveRequest) (c : Code) (d : Byte) (s : State) :
    (finish l r c d s).limits l = s.limits l := complete_limits l _ s

@[simp] theorem setEndCause_limits (l : Lane) (r : ActiveRequest) (c : Option Code) (s : State) :
    (setEndCause l r c s).limits l = s.limits l := State.limits_modSeq l _ s

@[simp] theorem endHold_limits (l : Lane) (r : ActiveRequest) (c : Code) (s : State) :
    (endHold l r c s).limits l = s.limits l := by
  unfold endHold; simp

@[simp] theorem beginFetch_limits (l : Lane) (s : State) : (beginFetch l s).limits l = s.limits l := by
  unfold beginFetch; simp

@[simp] theorem fetchCheck_limits (l : Lane) (s : State) : (fetchCheck l s).limits l = s.limits l := by
  unfold fetchCheck
  split <;> simp

@[simp] theorem startTransmission_limits (l : Lane) (forced : Bool) (s : State) :
    (startTransmission l forced s).limits l = s.limits l := by
  unfold startTransmission
  split
  · rfl
  · dsimp only
    rw [State.limits_modLane]
    · split <;> split <;> simp
    · exact fun _ => ⟨rfl, rfl, rfl⟩

@[simp] theorem huntEntered_limits (l : Lane) (s : State) : (huntEntered l s).limits l = s.limits l := by
  unfold huntEntered
  split <;> simp

@[simp] theorem enterHunt_limits (l : Lane) (s : State) : (enterHunt l s).limits l = s.limits l := by
  unfold enterHunt; simp

@[simp] theorem takeGoodFrame_limits (l : Lane) (f : GoodFrame) (s : State) :
    (takeGoodFrame l f s).limits l = s.limits l := by
  unfold takeGoodFrame
  dsimp only
  split
  · split <;> simp
  · simp

/-! ## Decoder -/

@[simp] theorem setDecoder_limits (l : Lane) (d : Decoder) (s : State) : (setDecoder l d s).limits l = s.limits l := by
  unfold setDecoder; simp

@[simp] theorem finishCapture_limits (l : Lane) (b : Word) (start : Moment) (c : Code) (pairs : List CapturePair)
    (s : State) : (finishCapture l b start c pairs s).limits l = s.limits l := by
  unfold finishCapture; simp

@[simp] theorem frameError_limits (l : Lane) (c : Code) (i : SlotId) (start : Moment) (part : PartialFrame)
    (s : State) : (frameError l c i start part s).limits l = s.limits l := by
  unfold frameError
  dsimp only
  split <;> simp

@[simp] theorem brokenInside_limits (l : Lane) (c : Code) (i : SlotId) (k : Nat) (start : Moment) (part : PartialFrame)
    (s : State) : (brokenInside l c i k start part s).limits l = s.limits l := by
  unfold brokenInside; simp

@[simp] theorem brokenAtEnd_limits (l : Lane) (c : Code) (i : SlotId) (start : Moment) (part : PartialFrame)
    (s : State) : (brokenAtEnd l c i start part s).limits l = s.limits l := by
  unfold brokenAtEnd; simp

@[simp] theorem frameEnds_limits (l : Lane) (i : SlotId) (start : Moment) (part : PartialFrame) (s : State) :
    (frameEnds l i start part s).limits l = s.limits l := by
  unfold frameEnds
  split <;> simp

@[simp] theorem orphan_limits (l : Lane) (i : SlotId) (k : Nat) (s : State) :
    (orphan l i k s).limits l = s.limits l := by
  unfold orphan; simp

@[simp] theorem claimCapture_limits (l : Lane) (s : State) : (claimCapture l s).2.limits l = s.limits l := by
  unfold claimCapture
  split
  · split
    · rename_i h; exact takeBuffer_limits h
    · simp
  · simp

@[simp] theorem firstMarkEnds_limits (l : Lane) (start : Moment) (m : Nat) (s : State) :
    (firstMarkEnds l start m s).limits l = s.limits l := by
  have h := claimCapture_limits l s
  unfold firstMarkEnds
  split
  · simp
  · split <;> rename_i hc <;> rw [hc] at h <;> simpa using h

@[simp] theorem unclassifiedSpace_limits (l : Lane) (start : Moment) (m d : Nat) (mark : Option Moment) (s : State) :
    (unclassifiedSpace l start m d mark s).limits l = s.limits l := by
  have h := claimCapture_limits l s
  unfold unclassifiedSpace
  generalize claimCapture l s = claim at h ⊢
  obtain ⟨_ | b, u⟩ := claim <;> dsimp only at h ⊢ <;> split
  · simpa using h
  · split <;> simpa using h
  · simpa using h
  · split <;> simpa using h

@[simp] theorem firstSpaceEnds_limits (l : Lane) (start : Moment) (m : Nat) (cands : List Candidate) (d : Nat)
    (edge : Moment) (s : State) : (firstSpaceEnds l start m cands d edge s).limits l = s.limits l := by
  unfold firstSpaceEnds
  split <;> simp

@[simp] theorem symbolTaken_limits (l : Lane) (start : Moment) (i : SlotId) (k d : Nat) (level : Bool)
    (part : PartialFrame) (s : State) : (symbolTaken l start i k d level part s).limits l = s.limits l := by
  unfold symbolTaken
  split <;> simp

@[simp] theorem closingMarkEnds_limits (l : Lane) (i : SlotId) (k d : Nat) (s : State) :
    (closingMarkEnds l i k d s).limits l = s.limits l := by
  unfold closingMarkEnds
  dsimp only
  split <;> simp

@[simp] theorem captureSpace_limits (l : Lane) (w : CaptureWork) (d : Nat) (s : State) :
    (captureSpace l w d s).limits l = s.limits l := by
  unfold captureSpace
  split
  · rfl
  · dsimp only
    split <;> simp

@[simp] theorem takeTransition_limits (l : Lane) (mark : Bool) (edge : Moment) (ended : Option Nat) (s : State) :
    (takeTransition l mark edge ended s).limits l = s.limits l := by
  unfold takeTransition captureMark
  split
  case h_1 | h_9 | h_10 => rfl
  all_goals split <;> simp

@[simp] theorem lineStuck_limits (l : Lane) (edge : Moment) (s : State) :
    (lineStuck l edge s).limits l = s.limits l := by
  unfold lineStuck; simp

@[simp] theorem spaceCrossing_limits (l : Lane) (threshold : Nat) (s : State) :
    (spaceCrossing l threshold s).limits l = s.limits l := by
  unfold spaceCrossing
  split
  case h_2 | h_5 => split <;> simp
  all_goals simp

@[simp] theorem takeCrossing_limits (l : Lane) (mark : Bool) (edge : Moment) (threshold : Nat) (s : State) :
    (takeCrossing l mark edge threshold s).limits l = s.limits l := by
  unfold takeCrossing
  split <;> simp

@[simp] theorem reportCrossings_limits (l : Lane) (cutoff : Moment) (n : Nat) (s : State) :
    (reportCrossings l cutoff n s).limits l = s.limits l := by
  induction n generalizing s with
  | zero => rfl
  | succ n ih =>
    unfold reportCrossings
    split
    · rfl
    · rw [ih, takeCrossing_limits]

@[simp] theorem crossingsNow_limits (l : Lane) (s : State) : (crossingsNow l s).limits l = s.limits l := by
  unfold crossingsNow
  split
  · rfl
  · split <;> simp

@[simp] theorem crossingsAtOnce_limits (l : Lane) (s : State) : (crossingsAtOnce l s).limits l = s.limits l := by
  unfold crossingsAtOnce
  split <;> simp

/-! ## Conditioner -/

@[simp] theorem restartInput_limits (l : Lane) (s : State) : (restartInput l s).limits l = s.limits l := by
  unfold restartInput
  split <;> simp

@[simp] theorem withdrawBlind_limits (l : Lane) (s : State) : (withdrawBlind l s).limits l = s.limits l := by
  unfold withdrawBlind
  split <;> simp

@[simp] theorem takeConfirmed_limits (l : Lane) (edge : Moment) (s : State) :
    (takeConfirmed l edge s).limits l = s.limits l := by
  unfold takeConfirmed
  dsimp only
  split <;> simp

@[simp] theorem confirmHeld_limits (l : Lane) (s : State) : (confirmHeld l s).limits l = s.limits l := by
  unfold confirmHeld confirmExcursion
  split <;> simp

@[simp] theorem setExcursion_limits (l : Lane) (e : Option Moment) (s : State) :
    (setExcursion l e s).limits l = s.limits l := by
  unfold setExcursion; simp

@[simp] theorem takePinEdge_limits (l : Lane) (high : Bool) (s : State) :
    (takePinEdge l high s).limits l = s.limits l := by
  unfold takePinEdge
  split
  · rfl
  · dsimp only
    split <;> simp

/-! ## Transmit sequencer -/

@[simp] theorem startEchoGuard_limits (l : Lane) (s : State) : (startEchoGuard l s).limits l = s.limits l := by
  unfold startEchoGuard
  dsimp only
  split <;> simp

@[simp] theorem leaveLine_limits (l : Lane) (r : ActiveRequest) (s : State) :
    (leaveLine l r s).limits l = s.limits l := by
  unfold leaveLine
  dsimp only
  split <;> simp

@[simp] theorem enterGap_limits (l : Lane) (due : Moment) (s : State) : (enterGap l due s).limits l = s.limits l :=
  State.limits_modSeq l _ s

@[simp] theorem firstGap_limits (l : Lane) (s : State) : (firstGap l s).limits l = s.limits l := enterGap_limits l _ s

@[simp] theorem afterTransmission_limits (l : Lane) (r : ActiveRequest) (s : State) :
    (afterTransmission l r s).limits l = s.limits l := by
  cases hk : r.kind <;> simp only [afterTransmission, hk]
  case exchange => simp
  all_goals split <;> simp

@[simp] theorem transmissionEnds_limits (l : Lane) (s : State) : (transmissionEnds l s).limits l = s.limits l := by
  unfold transmissionEnds
  dsimp only
  split
  · split <;> simp
  · rfl

@[simp] theorem deferOrStart_limits (l : Lane) (s : State) : (deferOrStart l s).limits l = s.limits l := by
  unfold deferOrStart
  dsimp only
  split <;> simp

@[simp] theorem spacingExpires_limits (l : Lane) (s : State) : (spacingExpires l s).limits l = s.limits l := by
  unfold spacingExpires
  dsimp only
  split
  · split
    · split <;> simp
    · simp
    · rfl
  · rfl

@[simp] theorem deferExpires_limits (l : Lane) (s : State) : (deferExpires l s).limits l = s.limits l := by
  unfold deferExpires
  dsimp only
  split
  · split
    · split <;> simp
    · rfl
  · rfl

@[simp] theorem enterEnding_limits (l : Lane) (r : ActiveRequest) (c : Code) (s : State) :
    (enterEnding l r c s).limits l = s.limits l := State.limits_modSeq l _ s

@[simp] theorem holdLimitExpires_limits (l : Lane) (s : State) : (holdLimitExpires l s).limits l = s.limits l := by
  unfold holdLimitExpires
  dsimp only
  split
  · split <;> simp
  · rfl

@[simp] theorem replyExpires_limits (l : Lane) (s : State) : (replyExpires l s).limits l = s.limits l := by
  unfold replyExpires
  dsimp only
  split
  · split
    · split <;> simp
    · rfl
  · rfl

@[simp] theorem activationTaken_limits (l : Lane) (s : State) : (activationTaken l s).limits l = s.limits l := by
  unfold activationTaken activate
  split
  · rfl
  · split
    · rfl
    · dsimp only
      split
      · split
        · simp
        · split <;> simp
      · simp

@[simp] theorem listArrives_limits (l : Lane) (r : ActiveRequest) (pairs : List RawPair) (s : State) :
    (listArrives l r pairs s).limits l = s.limits l := by
  unfold listArrives
  split <;> simp

theorem releaseHold_limits {l : Lane} {tag : Half} {s t : State} (h : releaseHold l tag s = some t) :
    t.limits l = s.limits l := by
  unfold releaseHold at h
  dsimp only at h
  split at h
  · cases h
  · split at h <;> cases h <;> simp

@[simp] theorem discardListRead_limits (l : Lane) (s : State) : (discardListRead l s).limits l = s.limits l := by
  simp [State.limits]

@[simp] theorem abortActive_limits (l : Lane) (r : ActiveRequest) (s : State) :
    (abortActive l r s).limits l = s.limits l := by
  unfold abortActive
  dsimp only
  split <;> simp

@[simp] theorem abortInHand_limits (l : Lane) (flush : Bool) (s : State) :
    (abortInHand l flush s).1.limits l = s.limits l := by
  unfold abortInHand
  dsimp only
  split
  · rfl
  · simp
  · split <;> simp
  · rfl

/-! ## Updates of the queue and of the settings -/

/-- The taking of an entry advances the head of the request queue (R85). -/
theorem takeEntry_limits (l : Lane) (e : RequestEntry) (s : State) :
    (takeEntry l e s).limits l = (advanceHead l s).limits l := by
  unfold takeEntry countFlushed
  dsimp only
  split
  · simp
  · split <;> simp

/-- An applied SET_LANE replaces the lane's settings (R151). -/
theorem applySettings_limits (l : Lane) (new : LaneSettings) (g : GateCommand) (s : State) :
    (applySettings l new g s).limits l = (new, (s.limits l).2) := by
  have hquiet : (quietDecoder l (settlePressAndGate l new g s)).limits l = s.limits l := by
    unfold quietDecoder settlePressAndGate
    dsimp only
    split <;> simp
  have hset : ∀ u : State, u.limits l = s.limits l →
      (u.modLane l fun x => { x with settings := new }).limits l = (new, (s.limits l).2) := by
    intro u hu
    rw [← hu]
    simp [State.limits, LaneState.limits]
  unfold applySettings
  dsimp only
  split <;> simp [hset _ hquiet]

end Sys2Proof.Machine
end

section
/-! Every step keeps the outboxes, the lane settings, the event rings and the request rings in their bounds (R37, R62,
R83, R126, R138). -/

namespace Sys2Proof.Machine

open Sys2Proof.Claims

/-! ## The bounds, part by part -/

/-- The bounds of the whole part. -/
def Bounded (s : State) : Prop := OutboxesFit s ∧ SettingsInRange s ∧ EventRingsKept s ∧ RequestRingsKept s

/-- A present request ring has its indices inside it, and a size of R83. -/
def RequestQueue.kept (q : RequestQueue) : Prop :=
  q.state ≠ .absent → q.head < q.size ∧ q.tail < q.size ∧ q.size ∈ requestSizes

/-- The admin ring has its indices inside it, and a size of R138. -/
def AdminQueue.kept (q : AdminQueue) : Prop := q.head < q.size ∧ q.tail < q.size ∧ q.size ∈ requestSizes

/-- A lane's settings, request queue and outbox are in their bounds. -/
def LimitsHeld (u : LaneSettings × RequestQueue × Bool) : Prop := u.1.inRange ∧ u.2.1.kept ∧ u.2.2 = true

theorem bounded_iff {s : State} :
    Bounded s ↔
      (∀ l, LimitsHeld (s.limits l)) ∧ EventRingsKept s ∧ ∀ q, s.admin.queue = some q → AdminQueue.kept q := by
  have hboxes : OutboxesFit s ↔ ∀ l, (s.limits l).2.2 = true := by simp [OutboxesFit, State.limits, LaneState.limits]
  unfold Bounded RequestRingsKept
  rw [hboxes]
  constructor
  · rintro ⟨hbox, hset, hev, hreq, hadm⟩
    exact ⟨fun l => ⟨hset l, hreq l, hbox l⟩, hev, hadm⟩
  · rintro ⟨hl, hev, hadm⟩
    exact ⟨fun l => (hl l).2.2, fun l => (hl l).1, hev, fun l => (hl l).2.1, hadm⟩

theorem pos_of_requestSize {n : Nat} (h : n ∈ requestSizes) : 0 < n := by
  revert n
  decide

theorem RequestQueue.kept_absent {q : RequestQueue} (h : q.state = .absent) : q.kept := fun hne => absurd h hne

/-- The head moves on by one, modulo size (R85). -/
theorem RequestQueue.kept_advance {q : RequestQueue} (h : q.kept) :
    RequestQueue.kept { q with head := (q.head + 1) % q.size } := by
  intro hpresent
  obtain ⟨-, htail, hsize⟩ := h hpresent
  exact ⟨Nat.mod_lt _ (pos_of_requestSize hsize), htail, hsize⟩

theorem RequestQueue.kept_afterReadError {q : RequestQueue} (h : q.kept) : q.afterReadError.kept := by
  unfold RequestQueue.afterReadError
  split
  · exact h
  all_goals rename_i hstate; exact fun _ => h (by rw [hstate]; exact nofun)

theorem AdminQueue.kept_advance {q : AdminQueue} (h : q.kept) :
    AdminQueue.kept { q with head := (q.head + 1) % q.size } := by
  obtain ⟨-, htail, hsize⟩ := h
  exact ⟨Nat.mod_lt _ (pos_of_requestSize hsize), htail, hsize⟩

/-- The settings of a reset lane are in their ranges (08, 8.5). -/
theorem inRange_reset : LaneSettings.reset.inRange := by
  unfold LaneSettings.inRange LaneSettings.reset
  decide

theorem limitsHeld_engineReset (x : LaneState) : LimitsHeld x.engineReset.limits :=
  ⟨inRange_reset, RequestQueue.kept_absent rfl, rfl⟩

theorem limitsHeld_stopped {x : LaneState} (h : LimitsHeld x.limits) : LimitsHeld x.stopped.limits :=
  ⟨h.1, RequestQueue.kept_absent rfl, rfl⟩

theorem LaneState.started_limits (x : LaneState) : x.started.limits = x.stopped.limits := by
  unfold LaneState.started
  dsimp only
  split <;> rfl

/-- A lane in its bounds stays there when its outbox holds no more events than 4. -/
theorem LimitsHeld.of_outbox {x : LaneState} {o : Outbox} (h : LimitsHeld x.limits) (ho : o.events.length ≤ 4) :
    LimitsHeld { x with outbox := o }.limits :=
  ⟨h.1, h.2.1, decide_eq_true ho⟩

/-! ## Event rings -/

/-- Moderation at a write moves nothing but the flag and the holdoff timer (R128, R129). -/
theorem moderateWrite_eq (q : EventQueue) (now : Moment) :
    ∃ f d, moderateWrite q now = { q with flag := f, holdoffDue := d } := by
  unfold moderateWrite
  split
  · exact ⟨_, _, rfl⟩
  all_goals
    split
    · exact ⟨_, _, rfl⟩
    · split
      · exact ⟨_, _, rfl⟩
      · split <;> exact ⟨_, _, rfl⟩

theorem cancelEmptyHoldoff_eq (q : EventQueue) : ∃ d, cancelEmptyHoldoff q = { q with holdoffDue := d } := by
  unfold cancelEmptyHoldoff
  split <;> exact ⟨_, rfl⟩

theorem restartHoldoff_eq (q : EventQueue) (now : Moment) :
    ∃ d, restartHoldoff q now = { q with holdoffDue := d } := by
  unfold restartHoldoff
  split
  · split <;> exact ⟨_, rfl⟩
  all_goals exact ⟨_, rfl⟩

/-- Moderation at an acknowledgment moves nothing but the flag and the holdoff timer (R128, R130, R131). -/
theorem moderateAck_eq (q : EventQueue) (clear : Bool) (now : Moment) :
    ∃ f d, moderateAck q clear now = { q with flag := f, holdoffDue := d } := by
  obtain ⟨d, hcancel⟩ := cancelEmptyHoldoff_eq q
  obtain ⟨d', hrestart⟩ := restartHoldoff_eq { cancelEmptyHoldoff q with flag := false } now
  unfold moderateAck
  dsimp only
  rw [hrestart, hcancel]
  split
  · exact ⟨_, _, rfl⟩
  · split <;> exact ⟨_, _, rfl⟩
  · split
    · split <;> exact ⟨_, _, rfl⟩
    · exact ⟨_, _, rfl⟩

/-- A queue with room takes one more entry, its tail going round (R121, R125). -/
theorem EventQueue.kept_written {q : EventQueue} (h : q.kept) (hroom : q.unread < q.size) (now : Moment) :
    (q.written now).kept := by
  obtain ⟨-, hring⟩ := h
  unfold EventQueue.written
  dsimp only
  obtain ⟨f, d, hmoderate⟩ := moderateWrite_eq
    { q with
      tail := if q.tail + 1 == q.size then 0 else q.tail + 1
      phase := if q.tail + 1 == q.size then !q.phase else q.phase
      unread := q.unread + 1 } now
  rw [hmoderate]
  refine ⟨hroom, fun hpresent => ?_⟩
  obtain ⟨htail, hsize⟩ := hring hpresent
  refine ⟨?_, hsize⟩
  dsimp only
  split
  · omega
  · rename_i hlast
    have hne : q.tail + 1 ≠ q.size := by simpa using hlast
    omega

theorem EventQueue.kept_failed {q : EventQueue} (h : q.kept) (hpresent : q.state ≠ .absent) : q.failed.kept :=
  ⟨h.1, fun _ => h.2 hpresent⟩

/-- The rings and the write in flight are as they were. -/
theorem EventRingsKept.of_same {s t : State} (h : EventRingsKept s) (heqs : t.eqs = s.eqs)
    (hwriter : t.writer = s.writer) : EventRingsKept t := by
  have hq : ∀ q, t.eq q = s.eq q := fun q => congrArg (fun v : Vector EventQueue 4 => v[q.val]) heqs
  exact ⟨fun q => by rw [hq]; exact h.1 q, fun w q hw => by rw [hq]; exact h.2 w q (hwriter ▸ hw)⟩

/-- With no write in flight the rings alone count. -/
theorem EventRingsKept.of_idle {s : State} (h : ∀ q, (s.eq q).kept) (hidle : s.writer.inFlight = none) :
    EventRingsKept s :=
  ⟨h, fun w q hw => by rw [hidle] at hw; cases hw⟩

/-- One ring changes, and a write in flight to it keeps its place. -/
theorem EventRingsKept.setEq {s : State} {q : EqId} {x : EventQueue} (h : EventRingsKept s) (hx : x.kept)
    (hflight : ∀ w, s.writer.inFlight = some (w, q) → x.state = .running ∧ x.unread < x.size) :
    EventRingsKept (s.setEq q x) := by
  obtain ⟨hrings, hwrite⟩ := h
  refine ⟨fun q' => ?_, fun w q' hw => ?_⟩ <;> rw [State.setEq_eq] <;> split
  · exact hx
  · exact hrings q'
  · rename_i hq; subst hq; exact hflight w hw
  · exact hwrite w q' hw

/-- The queue chosen can take the event (R124). -/
theorem eventRingsKept_chooseEvent {s : State} (h : EventRingsKept s) : EventRingsKept (chooseEvent s) := by
  rcases chooseEvent_cases s with ⟨w, q, -, -, hserved, hchoose⟩ | hchoose
  · have hroom := canTake_iff.mp (servable_eq_some.mp (nextServed_servable hserved)).2
    have hstarted : EventRingsKept { s with writer := { s.writer with inFlight := some (w, q) } } :=
      ⟨h.1, fun w' q' hw => by cases hw; exact hroom⟩
    rw [hchoose]
    rcases askBus_cases .eventWriter (eventWrite s w q)
        { s with writer := { s.writer with inFlight := some (w, q) } } with ⟨-, hask⟩ | ⟨-, hask⟩ <;> rw [hask]
    · exact hstarted.of_same rfl rfl
    · exact hstarted
  · rwa [hchoose]

/-! ## Transfer -/

namespace Bounded

variable {s t : State}

theorem lane (h : Bounded s) (l : Lane) : LimitsHeld (s.limits l) := (bounded_iff.mp h).1 l

theorem queue (h : Bounded s) (l : Lane) : (s.lane l).queue.kept := (h.lane l).2.1

theorem outbox (h : Bounded s) (l : Lane) : (s.lane l).outbox.events.length ≤ 4 := h.1 l

theorem rings (h : Bounded s) : EventRingsKept s := (bounded_iff.mp h).2.1

theorem adminRing (h : Bounded s) : ∀ q, s.admin.queue = some q → AdminQueue.kept q := (bounded_iff.mp h).2.2

/-- Lanes, event rings, the write in flight and the admin queue are as they were. -/
theorem of_same (h : Bounded s) (hlanes : t.lanes = s.lanes) (heqs : t.eqs = s.eqs) (hwriter : t.writer = s.writer)
    (hadmin : t.admin.queue = s.admin.queue) : Bounded t := by
  refine bounded_iff.mpr ⟨fun l => ?_, h.rings.of_same heqs hwriter, by rw [hadmin]; exact h.adminRing⟩
  have hlane : t.lane l = s.lane l := congrArg (fun v : Vector LaneState 4 => v[l.val]) hlanes
  unfold State.limits
  rw [hlane]
  exact h.lane l

/-- The event rings or the write in flight have changed, and the rings are kept. -/
theorem of_rings (h : Bounded s) (hlanes : t.lanes = s.lanes) (hadmin : t.admin.queue = s.admin.queue)
    (hrings : EventRingsKept t) : Bounded t := by
  have hsame : Bounded { t with eqs := s.eqs, writer := s.writer } := h.of_same hlanes rfl rfl hadmin
  exact bounded_iff.mpr ⟨hsame.lane, hrings, hsame.adminRing⟩

/-- One lane has changed, and it is in its bounds. -/
theorem of_onlyLane {l : Lane} (h : Bounded s) (hlane : OnlyLane l s t) (hl : LimitsHeld (t.limits l)) :
    Bounded t := by
  refine bounded_iff.mpr ⟨fun l' => ?_, h.rings.of_same hlane.eqs hlane.writer, by rw [hlane.admin]; exact h.adminRing⟩
  by_cases he : l' = l
  · rw [he]; exact hl
  · unfold State.limits
    rw [hlane.lanes l' he]
    exact h.lane l'

/-- One lane has changed, and not in what its bounds speak of. -/
theorem of_limits {l : Lane} (h : Bounded s) (hlane : OnlyLane l s t) (hl : t.limits l = s.limits l) : Bounded t :=
  h.of_onlyLane hlane (hl ▸ h.lane l)

end Bounded

/-! ## Operations outside the lanes -/

theorem bounded_chooseEvent {s : State} (h : Bounded s) : Bounded (chooseEvent s) :=
  h.of_rings (by simp) (by simp) (eventRingsKept_chooseEvent h.rings)

theorem bounded_setBus {s : State} (h : Bounded s) (c : BusClient) (x : BusSlot) : Bounded (s.setBus c x) :=
  h.of_same rfl rfl rfl rfl

theorem bounded_askBus {s : State} (h : Bounded s) (c : BusClient) (t : Transaction) : Bounded (askBus c t s) := by
  rcases askBus_cases c t s with ⟨-, hask⟩ | ⟨-, hask⟩ <;> rw [hask]
  · exact bounded_setBus h c _
  · exact h

theorem bounded_setAdmin {s : State} (h : Bounded s) (x : AdminState) : Bounded (setAdmin x s) :=
  h.of_same rfl rfl rfl rfl

theorem bounded_postDone {s : State} (h : Bounded s) (c : Code) (tag : Half) (p : Byte) (d : Nat) :
    Bounded (postDone c tag p d s) := bounded_setAdmin h _

theorem bounded_adminFetchCheck {s : State} (h : Bounded s) : Bounded (adminFetchCheck s) := by
  unfold adminFetchCheck
  split
  · split
    · exact h
    · exact bounded_askBus (bounded_setAdmin h _) _ _
  · exact h

/-- OFF clears fault bits and leaves the rings (R170). -/
theorem bounded_reachOff {s : State} (h : Bounded s) : Bounded (reachOff s) := by
  have hq : ∀ q, (reachOff s).eq q = { s.eq q with fault := false } := fun q => by simp [reachOff]
  refine h.of_rings rfl rfl ⟨fun q => ?_, fun w q hw => ?_⟩ <;> rw [hq]
  · exact h.rings.1 q
  · exact h.rings.2 w q hw

theorem bounded_settleStopping {s : State} (h : Bounded s) : Bounded (settleStopping s) := by
  unfold settleStopping
  split
  · exact h
  · exact bounded_reachOff h

/-- The end of a transaction keeps the bounds, when what its client makes of it does. -/
theorem bounded_endTransaction {s : State} {c : BusClient} {wanted : Purpose → Bool} {act : Transaction → State → State}
    (h : Bounded s) (hact : ∀ t, Bounded (s.setBus c .idle) → Bounded (act t (s.setBus c .idle))) :
    Bounded (endTransaction c wanted act s) := by
  have hfree := bounded_setBus h c .idle
  rcases endTransaction_cases c wanted act s with ⟨t, -, -, ⟨-, hend⟩ | ⟨-, hend⟩⟩ | hend <;> rw [hend]
  · exact hact t hfree
  · exact bounded_settleStopping hfree
  · exact h

theorem bounded_startTransaction {s : State} (h : Bounded s) : Bounded (startTransaction s) := by
  rcases startTransaction_cases s with ⟨i, t, -, -, hstart⟩ | hstart <;> rw [hstart]
  · exact h.of_same rfl rfl rfl rfl
  · exact h

/-- The admin queue changes and stays in its bounds. -/
theorem bounded_adminQueue {s : State} {queue : Option AdminQueue} (h : Bounded s)
    (hq : ∀ q, queue = some q → AdminQueue.kept q) : Bounded { s with admin := { s.admin with queue := queue } } :=
  bounded_iff.mpr ⟨h.lane, h.rings, hq⟩

/-! ## Operations of a lane -/

/-- An operation of one lane that leaves its limits, and the event writer's choice after it. -/
theorem bounded_lane {s t : State} {l : Lane} (h : Bounded s) (hlane : OnlyLane l s t)
    (hl : t.limits l = s.limits l) : Bounded (chooseEvent t) :=
  bounded_chooseEvent (h.of_limits hlane hl)

theorem bounded_modSeq {s : State} (h : Bounded s) (l : Lane) (f : Sequencer → Sequencer) : Bounded (s.modSeq l f) :=
  h.of_limits (onlyLane_modSeq l f s) (State.limits_modSeq l f s)

theorem bounded_fetchCheck {s : State} (h : Bounded s) (l : Lane) : Bounded (fetchCheck l s) :=
  h.of_limits (onlyLane_fetchCheck l s) (fetchCheck_limits l s)

theorem bounded_beginFetch {s : State} (h : Bounded s) (l : Lane) : Bounded (beginFetch l s) :=
  h.of_limits (onlyLane_beginFetch l s) (beginFetch_limits l s)

/-- A lane's request queue changes and stays in its bounds. -/
theorem bounded_requestQueue {s : State} {l : Lane} {f : LaneState → LaneState} (h : Bounded s)
    (hf : ((f (s.lane l)).settings = (s.lane l).settings ∧ (f (s.lane l)).outbox = (s.lane l).outbox))
    (hq : (f (s.lane l)).queue.kept) : Bounded (s.modLane l f) := by
  refine h.of_onlyLane (onlyLane_modLane l f s) ?_
  obtain ⟨hset, -, hbox⟩ := h.lane l
  unfold State.limits
  rw [State.modLane_lane_self]
  refine ⟨?_, hq, ?_⟩
  · show (f (s.lane l)).settings.inRange
    rw [hf.1]; exact hset
  · show decide ((f (s.lane l)).outbox.events.length ≤ 4) = true
    rw [hf.2]; exact hbox

/-- A lane's outbox changes and holds at most 4 events. -/
theorem bounded_modOutbox {s : State} {o : Outbox} (h : Bounded s) (l : Lane) (ho : o.events.length ≤ 4) :
    Bounded (s.modLane l fun x => { x with outbox := o }) := by
  refine h.of_onlyLane (onlyLane_modLane l _ s) ?_
  unfold State.limits
  rw [State.modLane_lane_self]
  exact (h.lane l).of_outbox ho

theorem bounded_advanceHead {s : State} (h : Bounded s) (l : Lane) : Bounded (advanceHead l s) :=
  bounded_requestQueue h ⟨rfl, rfl⟩ (RequestQueue.kept_advance (h.queue l))

theorem bounded_takeEntry {s : State} (h : Bounded s) (l : Lane) (e : RequestEntry) : Bounded (takeEntry l e s) :=
  h.of_onlyLane (onlyLane_takeEntry l e s) (takeEntry_limits l e s ▸ (bounded_advanceHead h l).lane l)

theorem bounded_noticeRequestQueue {s t : State} {l : Lane} {tail : Nat} (h : Bounded s)
    (hnotice : noticeRequestQueue l tail s = some t) : Bounded t := by
  unfold noticeRequestQueue at hnotice
  dsimp only at hnotice
  split at hnotice
  · cases hnotice
  all_goals
    rw [Option.ite_none_right_eq_some] at hnotice
    obtain ⟨htail, hset⟩ := hnotice
    rw [← Option.some.inj hset]
    refine bounded_fetchCheck (bounded_requestQueue h ⟨rfl, rfl⟩ fun hpresent => ?_) l
    obtain ⟨hhead, -, hsize⟩ := h.queue l hpresent
    exact ⟨hhead, htail, hsize⟩

/-- The size a SET_REQUEST_QUEUE carries is 0 or one of R83 (R146). -/
theorem requestSize_of_pass {a : RequestQueueArgs} (h : firstBad (requestQueueChecks a) = none)
    (hne : a.size.toNat ≠ 0) : a.size.toNat ∈ requestSizes := by
  have hsize := firstBad_eq_none.mp h (5, [0, 4, 8, 16, 32, 64, 128, 256].contains a.size.toNat)
    (by simp [requestQueueChecks])
  simpa [requestSizes, hne] using hsize

theorem bounded_claimRequestQueue {s t : State} {l : Lane} {a : RequestQueueArgs} (h : Bounded s)
    (hpass : firstBad (requestQueueChecks a) = none) (hclaim : claimRequestQueue l a s = some t) : Bounded t := by
  unfold claimRequestQueue at hclaim
  dsimp only at hclaim
  rw [Option.ite_none_right_eq_some] at hclaim
  rw [← Option.some.inj hclaim.2]
  refine bounded_requestQueue h ⟨rfl, rfl⟩ ?_
  dsimp only
  split
  · exact RequestQueue.kept_absent rfl
  · rename_i hne
    exact fun _ => ⟨Nat.pos_of_ne_zero hne, Nat.pos_of_ne_zero hne, requestSize_of_pass hpass hne⟩

/-! ## SET_LANE and RESET_LANE -/

/-- An armed list without a second appearance has none twice (R149 (1)). -/
theorem nodup_of_firstDuplicate {n : Nat} {seen armed : List SlotId} (h : firstDuplicate n seen armed = none) :
    armed.Nodup ∧ ∀ i ∈ armed, i ∉ seen := by
  induction armed generalizing n seen with
  | nil => simp
  | cons i rest ih =>
    unfold firstDuplicate at h
    split at h
    · cases h
    · rename_i hnew
      obtain ⟨hnodup, hseen⟩ := ih h
      have hrest : i ∉ rest := fun hi => hseen i hi (List.mem_cons_self ..)
      refine ⟨List.nodup_cons.mpr ⟨hrest, hnodup⟩, List.forall_mem_cons.mpr ⟨by simpa using hnew, fun j hj => ?_⟩⟩
      exact fun hin => hseen j hj (List.mem_cons_of_mem _ hin)

/-- Settings that pass the checks of SET_LANE are in the ranges of R37 (R149). -/
theorem inRange_laneSettings {a : LaneArgs} (hpass : firstBad (laneChecks a) = none)
    (hdup : firstDuplicate 12 [] (armedList a) = none) : (laneSettings a).inRange := by
  have hchecks := firstBad_eq_none.mp hpass
  have hdefer := hchecks (9, within 0 10000 a.deferLimit.toNat) (by simp [laneChecks])
  have hsettle := hchecks (10, within 100 65535 a.settleSilence.toNat) (by simp [laneChecks])
  have hguard := hchecks (21, within 1 60000 a.guardWindow.toNat) (by simp [laneChecks])
  rw [within_iff] at hdefer hsettle hguard
  have hglitch := a.glitchWidth.isLt
  have hecho := a.echoGuard.isLt
  have harmed : (armedList a).length ≤ 4 := by
    rw [armedList, List.length_map, List.length_take]
    exact Nat.min_le_right _ _
  refine ⟨?_, ?_, hdefer.2, hsettle.1, hsettle.2, harmed, (nodup_of_firstDuplicate hdup).1, hguard.1, hguard.2⟩
  · exact Nat.le_of_lt_succ hglitch
  · exact Nat.le_of_lt_succ hecho

theorem bounded_setLaneChecked {s : State} {a : LaneArgs} (h : Bounded s) (hpass : firstBad (laneChecks a) = none)
    (tag : Half) : Bounded (setLaneChecked tag a s) := by
  unfold setLaneChecked
  dsimp only
  split
  · exact bounded_postDone h _ _ _ _
  · rename_i hdup
    split
    · exact bounded_postDone h _ _ _ _
    · split
      · exact bounded_postDone h _ _ _ _
      · refine bounded_postDone (h.of_onlyLane (onlyLane_applySettings _ _ _ s) ?_) _ _ _ _
        rw [applySettings_limits]
        exact ⟨inRange_laneSettings hpass hdup, (h.lane _).2⟩

/-- RESET_LANE leaves the reset settings, the queue as it was and an empty outbox (R154). -/
theorem limitsHeld_afterReset {x : LaneState} (h : LimitsHeld x.limits) (kept : Option RxEvent) :
    LimitsHeld (x.afterReset kept).limits :=
  ⟨inRange_reset, h.2.1, rfl⟩

theorem bounded_resetLane {s : State} (h : Bounded s) (l : Lane) : Bounded (resetLane l s) := by
  have hbus : Bounded (if (s.lane l).capture.isSome then discardCaptureWrite l s else s) := by
    split
    · rcases discardCaptureWrite_cases l s with hd | ⟨x, hd⟩ <;> rw [hd]
      · exact h
      · exact bounded_setBus h _ x
    · exact h
  unfold resetLane
  dsimp only
  generalize (if (s.lane l).capture.isSome then discardCaptureWrite l s else s) = u at hbus ⊢
  have hlists : ∀ list n, Bounded { u with captureList := list, freeIndex := n } :=
    fun list n => hbus.of_same rfl rfl rfl rfl
  refine (hlists _ _).of_onlyLane (onlyLane_setLane l _ _) ?_
  rw [State.limits_setLane]
  exact limitsHeld_afterReset (h.lane l) _

theorem bounded_reportAbort {s : State} (h : Bounded s) (l : Lane) (n : Nat) : Bounded (reportAbort l n s) := by
  have hseq := bounded_modSeq h l fun q => { q with abort := none }
  unfold reportAbort
  dsimp only
  split
  · refine bounded_postDone ?_ _ _ _ _
    split
    · exact bounded_resetLane hseq l
    · exact hseq
  all_goals exact hseq

theorem bounded_abortLane {s : State} (h : Bounded s) (tag : Half) (l : Lane) (flush reset : Bool) :
    Bounded (abortLane tag l flush reset s) := by
  have hcaught := (bounded_setAdmin h (.executing tag (.laneAbort l reset))).of_limits
    (onlyLane_abortInHand l flush _) (abortInHand_limits l flush _)
  unfold abortLane
  dsimp only
  generalize abortInHand l flush (setAdmin (.executing tag (.laneAbort l reset)) s) = caught at hcaught ⊢
  generalize (if flush then _ else 0) = entries
  split
  · exact bounded_reportAbort hcaught l 0
  · have hnoted := bounded_modSeq hcaught l fun q =>
      { q with abort := some { remaining := entries, aborted := caught.2 } }
    split
    · exact bounded_beginFetch hnoted l
    all_goals exact hnoted

/-! ## The writer of a written event -/

theorem bounded_completionWritten {s : State} (h : Bounded s) (l : Lane) : Bounded (completionWritten l s) := by
  have hidle := bounded_modSeq h l fun q => { q with state := .idle, active := none, completion := none }
  unfold completionWritten
  dsimp only
  split
  · exact bounded_fetchCheck hidle l
  · split
    · exact bounded_fetchCheck (bounded_reportAbort hidle l _) l
    · exact bounded_beginFetch hidle l

theorem bounded_releaseHeld {s : State} (h : Bounded s) (ev : RxEvent) : Bounded (releaseHeld ev s) := by
  unfold releaseHeld
  split
  · exact h.of_same rfl rfl rfl rfl
  all_goals exact h

theorem bounded_leaveOutbox {s : State} (h : Bounded s) (l : Lane) : Bounded (leaveOutbox l s) := by
  have hfull := h.outbox l
  unfold leaveOutbox
  dsimp only
  split
  · exact bounded_releaseHeld (bounded_modOutbox h l (by exact hfull)) _
  · split
    · exact h
    · rename_i ev rest hevents
      rw [hevents, List.length_cons] at hfull
      exact bounded_releaseHeld (bounded_modOutbox h l (Nat.le_of_succ_le hfull)) _

theorem bounded_dropSettling {s : State} (h : Bounded s) (l : Lane) : Bounded (dropSettling l s) := by
  unfold dropSettling
  dsimp only
  split
  · exact h
  · have hdropped := bounded_modOutbox (o := { (s.lane l).outbox with settling := none }) h l (h.outbox l)
    split
    · exact hdropped.of_same rfl rfl rfl rfl
    all_goals exact hdropped

theorem bounded_writerServed {s : State} (h : Bounded s) (w : Writer) : Bounded (writerServed w s) := by
  cases w with
  | commandUnit => exact bounded_adminFetchCheck (bounded_setAdmin h _)
  | sequencer l => exact bounded_completionWritten h l
  | outbox l => exact bounded_leaveOutbox h l

/-- The write in flight is over, and its queue has become one that is kept. -/
theorem bounded_writeOver {s : State} {q : EqId} {x : EventQueue} (h : Bounded s) (hx : x.kept) (w : Writer) :
    Bounded (writeOver w (s.setEq q x)) := by
  refine h.of_rings rfl rfl (.of_idle (fun q' => ?_) rfl)
  show ((s.setEq q x).eq q').kept
  rw [State.setEq_eq]
  split
  · exact hx
  · exact h.rings.1 q'

theorem bounded_eventWritten {s : State} (h : Bounded s) : Bounded (eventWritten s) := by
  refine bounded_endTransaction h fun t hfree => ?_
  split
  · exact hfree
  · rename_i w q hflight
    obtain ⟨hrings, hwrite⟩ := hfree.rings
    exact bounded_chooseEvent (bounded_writerServed
      (bounded_writeOver hfree (EventQueue.kept_written (hrings q) (hwrite w q hflight).2 _) w) w)

theorem bounded_eventFailed {s : State} (h : Bounded s) : Bounded (eventFailed s) := by
  refine bounded_endTransaction h fun t hfree => ?_
  dsimp only
  split
  · exact hfree
  · rename_i w q hflight
    obtain ⟨hrings, hwrite⟩ := hfree.rings
    have hpresent := (hwrite w q hflight).1
    have hover := bounded_writeOver (q := q) hfree (EventQueue.kept_failed (hrings q) (by rw [hpresent]; exact nofun)) w
    refine bounded_chooseEvent ?_
    cases w with
    | commandUnit => exact hover
    | sequencer l => exact hover
    | outbox l => exact bounded_dropSettling hover l

/-! ## Event queues -/

/-- An acknowledgment takes entries away and leaves the ring (R127). -/
theorem bounded_acknowledge {s : State} (h : Bounded s) (word : Word) : Bounded (acknowledge word s) := by
  unfold acknowledge
  dsimp only
  split
  · split
    · exact h.of_same rfl rfl rfl rfl
    · rename_i d _
      generalize (⟨_, ‹_›⟩ : EqId) = q
      obtain ⟨f, due, hmoderate⟩ :=
        moderateAck_eq { s.eq q with unread := (s.eq q).unread - d } (word.getLsbD 31) s.clock
      rw [hmoderate]
      obtain ⟨hunread, hring⟩ := h.rings.1 q
      refine bounded_chooseEvent (h.of_rings rfl rfl (h.rings.setEq ⟨?_, hring⟩ fun w hw => ?_))
      · exact Nat.le_trans (Nat.sub_le _ d) hunread
      · obtain ⟨hrunning, hroom⟩ := h.rings.2 w q hw
        exact ⟨hrunning, Nat.lt_of_le_of_lt (Nat.sub_le _ d) hroom⟩
  · exact h.of_same rfl rfl rfl rfl

/-- The size a SET_EVENT_QUEUE carries is 0 or one of R121 (R145). -/
theorem eventSize_of_pass {a : EventQueueArgs} (h : firstBad (eventQueueChecks a) = none) (hne : a.size.toNat ≠ 0) :
    a.size.toNat ∈ [16, 32, 64, 128, 256, 512, 1024] := by
  have hsize := firstBad_eq_none.mp h _ (List.mem_cons_of_mem _ (List.mem_cons_of_mem _ (List.mem_cons_self ..)))
  simpa [hne] using hsize

/-- SET_EVENT_QUEUE claims no queue that an event write is in flight to (R122). -/
theorem bounded_claimEventQueue {s t : State} {q : EqId} {a : EventQueueArgs} (h : Bounded s)
    (hpass : firstBad (eventQueueChecks a) = none) (hclaim : claimEventQueue q a s = some t) : Bounded t := by
  unfold claimEventQueue at hclaim
  dsimp only at hclaim
  rw [Option.ite_none_right_eq_some] at hclaim
  obtain ⟨haccepts, hset⟩ := hclaim
  have hfree : ∀ w, s.writer.inFlight ≠ some (w, q) := by
    intro w hw
    rw [(h.rings.2 w q hw).1] at haccepts
    simp [State.writingTo, hw] at haccepts
  split at hset <;> rw [← Option.some.inj hset] <;>
    refine h.of_rings rfl rfl (h.rings.setEq ?_ fun w hw => absurd hw (hfree w))
  · exact ⟨Nat.zero_le _, fun hpresent => absurd rfl hpresent⟩
  · rename_i hne
    exact ⟨Nat.zero_le _, fun _ => ⟨Nat.pos_of_ne_zero hne, eventSize_of_pass hpass hne⟩⟩

theorem bounded_holdoff {s : State} (h : Bounded s) (q : EqId) : Bounded (s.setEq q (moderateHoldoff (s.eq q))) :=
  h.of_rings rfl rfl (h.rings.setEq (h.rings.1 q) fun w hw => h.rings.2 w q hw)

/-! ## Taken commands -/

theorem bounded_advanceAdmin {s : State} (h : Bounded s) : Bounded (advanceAdmin s) := by
  refine bounded_adminQueue h fun q hq => ?_
  obtain ⟨q', hq', rfl⟩ := Option.map_eq_some_iff.mp hq
  exact AdminQueue.kept_advance (h.adminRing q' hq')

theorem bounded_takeCommand {s : State} {act : State → State} (h : Bounded s)
    (hact : ∀ u, Bounded u → Bounded (act u)) : Bounded (takeCommand act s) :=
  bounded_endTransaction h fun _ hfree => bounded_chooseEvent (hact _ (bounded_advanceAdmin hfree))

/-- A taken command that goes on only when its range checks pass. -/
theorem bounded_takeChecked {s : State} {act : State → State} (h : Bounded s) (tag : Half) (checks : List (Nat × Bool))
    (hact : firstBad checks = none → ∀ u, Bounded u → Bounded (act u)) :
    Bounded (takeCommand (checked tag checks act) s) := by
  refine bounded_takeCommand h fun u hu => ?_
  unfold checked
  split
  · exact bounded_postDone hu _ _ _ _
  · rename_i hpass; exact hact hpass u hu

theorem bounded_decided {s : State} {claim : Option State} (h : Bounded s) (tag : Half) (refusal : Code)
    (hclaim : ∀ t, claim = some t → Bounded t) : Bounded (decided tag refusal claim s) := by
  unfold decided
  split
  · exact bounded_postDone (hclaim _ rfl) _ _ _ _
  · exact bounded_postDone h _ _ _ _

theorem bounded_setSlot {s : State} (h : Bounded s) (i : SlotId) (x : Slot) : Bounded (s.setSlot i x) :=
  h.of_same rfl rfl rfl rfl

theorem bounded_beginLoad {s : State} (h : Bounded s) (tag : Half) (slot : Byte) (address : Word) :
    Bounded (beginLoad tag slot address s) := by
  unfold beginLoad
  dsimp only
  split
  · exact bounded_postDone h _ _ _ _
  · exact bounded_askBus (bounded_setAdmin (bounded_setSlot h _ _) _) _ _

theorem bounded_endLoad {s : State} (h : Bounded s) (tag : Half) (i : SlotId) (record : Option ProfileRecord) :
    Bounded (endLoad tag i record s) := by
  unfold endLoad
  dsimp only
  split
  · exact bounded_postDone (bounded_setSlot h _ _) _ _ _ _
  · split <;> exact bounded_postDone (bounded_setSlot h _ _) _ _ _ _

theorem bounded_clearSlot {s : State} (h : Bounded s) (tag : Half) (slot : Byte) : Bounded (clearSlot tag slot s) := by
  unfold clearSlot
  dsimp only
  split
  · exact bounded_postDone h _ _ _ _
  · exact bounded_postDone (bounded_setSlot h _ _) _ _ _ _

theorem bounded_postBuffer {s t : State} {address : Word} (h : Bounded s) (hpost : postBuffer address s = some t) :
    Bounded t := by
  unfold postBuffer at hpost
  rw [Option.ite_none_right_eq_some] at hpost
  rw [← Option.some.inj hpost.2]
  exact h.of_same rfl rfl rfl rfl

theorem bounded_clearCounters {s : State} (h : Bounded s) (source : CounterSource) :
    Bounded (clearCounters source s) := by
  unfold clearCounters
  cases source with
  | lane l => exact h.of_limits (onlyLane_modLane l _ s) (State.limits_modLane s fun _ => ⟨rfl, rfl, rfl⟩)
  | hits first count => exact h.of_same rfl rfl rfl rfl

theorem bounded_endCounters {s : State} (h : Bounded s) (tag : Half) (source : CounterSource) (clear busError : Bool) :
    Bounded (endCounters tag source clear busError s) := by
  unfold endCounters
  split
  · exact bounded_postDone h _ _ _ _
  · refine bounded_postDone ?_ _ _ _ _
    split
    · exact bounded_clearCounters h source
    · exact h

/-! ## Ends of a lane's transactions -/

theorem bounded_captureWriteEnds {s : State} (h : Bounded s) (l : Lane) (busError : Bool) :
    Bounded (captureWriteEnds l busError s) := by
  refine bounded_endTransaction h fun t hfree => ?_
  split
  · exact hfree
  · split
    · exact bounded_askBus hfree _ _
    · exact hfree.of_limits ((onlyLane_modLane l _ _).trans (onlyLane_enterOutbox l _ _)) (by simp)

theorem bounded_entryReadFails {s : State} (h : Bounded s) (l : Lane) : Bounded (entryReadFails l s) :=
  bounded_endTransaction h fun _ hfree =>
    (bounded_requestQueue hfree ⟨rfl, rfl⟩ (RequestQueue.kept_afterReadError (hfree.queue l))).of_limits
      (onlyLane_complete l _ _) (complete_limits l _ _)

theorem bounded_listReadEnds {s : State} (h : Bounded s) (l : Lane) (result : Option (List RawPair)) :
    Bounded (listReadEnds l result s) := by
  unfold listReadEnds
  dsimp only
  split
  · rename_i r pairs _ _
    split
    · exact bounded_endTransaction h fun _ hfree =>
        hfree.of_limits (onlyLane_listArrives l r pairs _) (listArrives_limits l r pairs _)
    · exact h
  · exact bounded_endTransaction h fun _ hfree =>
      hfree.of_limits (onlyLane_finish l _ _ _ _) (finish_limits l _ _ _ _)
  · exact bounded_endTransaction h fun _ hfree => bounded_askBus hfree _ _
  · exact bounded_endTransaction h fun _ hfree => hfree

/-! ## Engine and registers -/

theorem bounded_noticeAdminQueue {s t : State} {tail : Nat} (h : Bounded s)
    (hnotice : noticeAdminQueue tail s = some t) : Bounded t := by
  unfold noticeAdminQueue at hnotice
  split at hnotice
  · cases hnotice
  · rename_i q hq
    rw [Option.ite_none_right_eq_some] at hnotice
    obtain ⟨htail, hset⟩ := hnotice
    rw [← Option.some.inj hset]
    obtain ⟨hhead, -, hsize⟩ := h.adminRing q hq
    exact bounded_adminFetchCheck (bounded_adminQueue h fun q' hq' => by cases hq'; exact ⟨hhead, htail, hsize⟩)

theorem bounded_writeSubmit {s : State} (h : Bounded s) (word : Word) : Bounded (writeSubmit word s) := by
  have hrefused : Bounded { s with submitError := true } := h.of_same rfl rfl rfl rfl
  unfold writeSubmit
  dsimp only
  split
  · cases hn : noticeRequestQueue _ _ s with
    | none => exact hrefused
    | some t => exact bounded_noticeRequestQueue h hn
  · split
    · cases hn : noticeAdminQueue _ s with
      | none => exact hrefused
      | some t => exact bounded_noticeAdminQueue h hn
    · exact hrefused

theorem bounded_writeStatus {s : State} (h : Bounded s) (word : Word) : Bounded (writeStatus word s) :=
  h.of_same rfl rfl rfl rfl

theorem bounded_writeAdminBase {s : State} (h : Bounded s) (word : Word) : Bounded (writeAdminBase word s) := by
  unfold writeAdminBase
  split
  · exact h.of_same rfl rfl rfl rfl
  all_goals exact h

/-- Lanes and event queues as at an engine reset are in their bounds (R171). -/
theorem bounded_of_reset {s : State} (hlanes : ∀ l, ∃ x : LaneState, s.lane l = x.engineReset)
    (heqs : ∀ q, s.eq q = EventQueue.reset) (hwriter : s.writer = EventWriter.reset)
    (hadmin : s.admin = CommandUnit.reset) : Bounded s := by
  refine bounded_iff.mpr ⟨fun l => ?_, .of_idle (fun q => ?_) (by rw [hwriter]; rfl), fun q hq => ?_⟩
  · obtain ⟨x, hx⟩ := hlanes l
    unfold State.limits
    rw [hx]
    exact limitsHeld_engineReset x
  · rw [heqs]
    exact ⟨Nat.zero_le _, fun hpresent => absurd rfl hpresent⟩
  · rw [hadmin] at hq
    cases hq

theorem bounded_resetEngine (s : State) : Bounded (resetEngine s) :=
  bounded_settleStopping (bounded_of_reset (fun l => ⟨s.lane l, by simp [resetBlocks]⟩)
    (fun q => by simp [resetBlocks, State.reset]) rfl rfl)

theorem bounded_powerOn (s : State) : Bounded (powerOn s) :=
  bounded_of_reset (fun l => ⟨s.lane l, by simp [powerOn]⟩) (fun q => by simp [powerOn, State.reset]) rfl rfl

/-- A stopped event queue is ABSENT and empty (R137). -/
theorem EventQueue.kept_stopped (q : EventQueue) : q.stopped.kept :=
  ⟨Nat.zero_le _, fun hpresent => absurd rfl hpresent⟩

theorem bounded_stopEngine {s : State} (h : Bounded s) : Bounded (stopEngine s) := by
  refine bounded_settleStopping (bounded_iff.mpr ⟨fun l => ?_, .of_idle (fun q => ?_) rfl, nofun⟩)
  · have hlimits : (stopBlocks s).limits l = (s.lane l).stopped.limits := by simp [State.limits, stopBlocks]
    rw [hlimits]
    exact limitsHeld_stopped (h.lane l)
  · have hq : (stopBlocks s).eq q = (s.eq q).stopped := by simp [stopBlocks]
    rw [hq]
    exact EventQueue.kept_stopped _

/-- The sizes that the valid size codes of ADMIN_BASE stand for (R164, R168). -/
theorem adminSize_mem {code : Nat} (h : code < 7) : 4 * 2 ^ code ∈ requestSizes := by
  revert code
  decide

/-- ENABLE starts an empty admin ring of the size ADMIN_BASE states (R168). -/
theorem bounded_enterRunning {s : State} (h : Bounded s) (hbase : adminBaseOk s.adminBase = true) :
    Bounded (enterRunning s) := by
  refine bounded_iff.mpr ⟨fun l => ?_, .of_idle (fun q => ?_) rfl, fun q hq => ?_⟩
  · have hlimits : (enterRunning s).limits l = (s.lane l).stopped.limits := by
      simp [State.limits, enterRunning, LaneState.started_limits]
    rw [hlimits]
    exact limitsHeld_stopped (h.lane l)
  · have hq : (enterRunning s).eq q = (s.eq q).stopped := by simp [enterRunning]
    rw [hq]
    exact EventQueue.kept_stopped _
  · have hcode : adminSizeCode s.adminBase < 7 := by simp [adminBaseOk] at hbase; exact hbase.2
    have hsize := adminSize_mem hcode
    cases hq
    exact ⟨pos_of_requestSize hsize, pos_of_requestSize hsize, hsize⟩

theorem bounded_enableEngine {s : State} (h : Bounded s) : Bounded (enableEngine s) := by
  unfold enableEngine
  split
  · rename_i hbase; exact bounded_enterRunning h hbase
  · exact h.of_same rfl rfl rfl rfl

theorem bounded_writeControl {s : State} (h : Bounded s) (word : Word) : Bounded (writeControl word s) := by
  unfold writeControl
  split
  · exact bounded_resetEngine s
  · have hirq : Bounded { s with irqEnable := word.getLsbD 2 } := h.of_same rfl rfl rfl rfl
    dsimp only
    split
    · exact bounded_enableEngine hirq
    · exact bounded_stopEngine hirq
    all_goals exact hirq

theorem bounded_hostWrite {s : State} (h : Bounded s) (offset width : Nat) (word : Word) :
    Bounded (hostWrite offset width word s) := by
  unfold hostWrite
  split
  · split
    · exact bounded_writeControl h word
    · exact bounded_writeStatus h word
    · exact bounded_writeAdminBase h word
    · exact bounded_writeSubmit h word
    · exact bounded_acknowledge h word
    · exact h
  · exact h

/-! ## Steps -/

/-- Every command keeps the bounds. -/
theorem bounded_exec {s t : State} {c : Instr} (h : Bounded s) (hexec : exec c s = .next t) : Bounded t := by
  cases c <;> cases hexec
  case powerOnReset => exact bounded_powerOn s
  case engineReset word => exact bounded_writeControl h word
  case enable word => exact bounded_writeControl h word
  case engineStop word => exact bounded_writeControl h word
  case irqEnableWrite word => exact bounded_writeControl h word
  case submitErrorClear word => exact bounded_writeStatus h word
  case ackErrorClear word => exact bounded_writeStatus h word
  case adminFaultClear word => exact bounded_writeStatus h word
  case adminBaseWrite word => exact bounded_writeAdminBase h word
  case submit word => exact bounded_writeSubmit h word
  case eventAck word => exact bounded_acknowledge h word
  case clearNotice word => exact bounded_acknowledge h word
  case registerWriteIgnored offset width word => exact bounded_hostWrite h offset width word
  case busGrant =>
    split
    · exact bounded_startTransaction h
    all_goals exact h
  case stoppingTransactionEnd client busError =>
    split
    · exact bounded_endTransaction h fun _ hfree => hfree
    all_goals exact h
  case adminReadError => exact bounded_endTransaction h fun _ hfree => hfree.of_same rfl rfl rfl rfl
  case unknownCommand command tag =>
    split
    · exact h
    · exact bounded_takeCommand h fun u hu => bounded_postDone hu _ _ _ _
  case nop tag => exact bounded_takeCommand h fun u hu => bounded_postDone hu _ _ _ _
  case setEventQueue tag a =>
    exact bounded_takeChecked h _ _ fun hpass u hu =>
      bounded_decided hu _ _ fun t hclaim => bounded_claimEventQueue hu hpass hclaim
  case setRequestQueue tag a =>
    exact bounded_takeChecked h _ _ fun hpass u hu =>
      bounded_decided hu _ _ fun t hclaim => bounded_claimRequestQueue hu hpass hclaim
  case loadProfile tag slot address =>
    exact bounded_takeChecked h _ _ fun _ u hu => bounded_beginLoad hu tag slot address
  case profileRecordReadEnd record =>
    refine bounded_endTransaction h fun _ hfree => ?_
    split
    · exact bounded_chooseEvent (bounded_endLoad hfree _ _ record)
    · exact hfree
  case clearProfile tag slot => exact bounded_takeChecked h _ _ fun _ u hu => bounded_clearSlot hu tag slot
  case loadFilter tag a =>
    exact bounded_takeChecked h _ _ fun _ u hu => bounded_postDone (hu.of_same rfl rfl rfl rfl) _ _ _ _
  case setLane tag a => exact bounded_takeChecked h _ _ fun hpass u hu => bounded_setLaneChecked hu hpass tag
  case abortLane tag l scope => exact bounded_takeChecked h _ _ fun _ u hu => bounded_abortLane hu _ _ _ _
  case resetLane tag l => exact bounded_takeChecked h _ _ fun _ u hu => bounded_abortLane hu _ _ _ _
  case release tag l holdTag =>
    exact bounded_takeChecked h _ _ fun _ u hu =>
      bounded_decided hu _ _ fun t hclaim => hu.of_limits (onlyLane_releaseHold hclaim) (releaseHold_limits hclaim)
  case postCaptureBuffer tag address =>
    exact bounded_takeChecked h _ _ fun _ u hu => bounded_decided hu _ _ fun t hpost => bounded_postBuffer hu hpost
  case readCounters tag a =>
    exact bounded_takeChecked h _ _ fun _ u hu => bounded_askBus (bounded_setAdmin hu _) _ _
  case counterBlockWriteEnd busError =>
    refine bounded_endTransaction h fun _ hfree => ?_
    split
    · exact bounded_chooseEvent (bounded_endCounters hfree _ _ _ _)
    · exact hfree
  case pinEdge l high => exact bounded_lane h (onlyLane_takePinEdge l high s) (takePinEdge_limits l high s)
  case transitionConfirm l => exact bounded_lane h (onlyLane_confirmHeld l s) (confirmHeld_limits l s)
  case thresholdCrossing l => exact bounded_lane h (onlyLane_crossingsNow l s) (crossingsNow_limits l s)
  case captureWriteEnd l busError => exact bounded_chooseEvent (bounded_captureWriteEnds h l busError)
  case repeatWindowExpiry l =>
    split
    · exact h
    · split
      · exact bounded_lane h (onlyLane_closePress l s) (closePress_limits l s)
      · exact h
  case gateWindowExpiry l =>
    split
    · exact h.of_limits (onlyLane_modLane l _ s) (State.limits_modLane s fun _ => ⟨rfl, rfl, rfl⟩)
    · exact h
  case echoGuardExpiry l =>
    split
    · exact bounded_lane h (onlyLane_withdrawBlind l s) (withdrawBlind_limits l s)
    · exact h
  case requestEntryReadEnd l e =>
    exact bounded_chooseEvent (bounded_endTransaction h fun _ hfree => bounded_takeEntry hfree l e)
  case requestReadError l => exact bounded_chooseEvent (bounded_entryReadFails h l)
  case activation l => exact bounded_lane h (onlyLane_activationTaken l s) (activationTaken_limits l s)
  case pairListReadEnd l pairs => exact bounded_chooseEvent (bounded_listReadEnds h l pairs)
  case spacingTimerExpiry l => exact h.of_limits (onlyLane_spacingExpires l s) (spacingExpires_limits l s)
  case transmissionEnd l => exact bounded_lane h (onlyLane_transmissionEnds l s) (transmissionEnds_limits l s)
  case deferTimerExpiry l => exact bounded_lane h (onlyLane_deferExpires l s) (deferExpires_limits l s)
  case holdLimitExpiry l => exact bounded_lane h (onlyLane_holdLimitExpires l s) (holdLimitExpires_limits l s)
  case replyWindowExpiry l => exact bounded_lane h (onlyLane_replyExpires l s) (replyExpires_limits l s)
  case eventWriteEnd => exact bounded_eventWritten h
  case eventWriteError => exact bounded_eventFailed h
  case holdoffExpiry q =>
    split
    · exact bounded_holdoff h q
    · exact h

/-- Settles O56: the bounds through every command and through the time base's count. -/
theorem boundsKeptByEveryStep : Obligations.BoundsKeptByEveryStep := by
  intro s t h hstep
  have hs : Bounded s := h
  rcases step_cases hstep with ⟨c, rest, hexec⟩ | rfl
  · exact bounded_exec (s := { s with pending := rest }) (hs.of_same rfl rfl rfl rfl) hexec
  · rw [tick_eq]
    exact hs.of_same rfl rfl rfl rfl

end Sys2Proof.Machine
end

section
/-! Saturating counts, the outbox and the match table's lookup (R36, R62, R63, R74, R80). -/

namespace Sys2Proof.Machine

open Sys2Proof.Claims

/-! ## Saturating counts -/

theorem satInc_eq {w : Nat} (x : BitVec w) : satInc x = BitVec.ofNat w (min (x.toNat + 1) (2 ^ w - 1)) := by
  have hx := x.isLt
  refine BitVec.eq_of_toNat_eq ?_
  rw [satInc_toNat, BitVec.toNat_ofNat, Nat.mod_eq_of_lt (by omega)]

theorem satAdd_eq {w : Nat} (x y : BitVec w) :
    satAdd x y = BitVec.ofNat w (min (x.toNat + y.toNat) (2 ^ w - 1)) := by
  have hx := x.isLt
  refine BitVec.eq_of_toNat_eq ?_
  rw [satAdd_toNat, BitVec.toNat_ofNat, Nat.mod_eq_of_lt (by omega)]

theorem bump_eq (l : Lane) (c : LaneCounter) (s : State) :
    bump l c s =
      s.setLane l
        { s.lane l with
          counters := (s.lane l).counters.set c.index.val
            (BitVec.ofNat 32 (min (((s.lane l).counter c).toNat + 1) (2 ^ 32 - 1))) } := by
  rw [← satInc_eq]
  rfl

/-! ## The outbox -/

theorem enterOutbox_of_room {l : Lane} {s : State} (h : (s.lane l).outbox.events.length < 4) (ev : RxEvent) :
    enterOutbox l ev s =
      s.setLane l
        { s.lane l with
          outbox :=
            { (s.lane l).outbox with
              lost := 0, events := (s.lane l).outbox.events ++ [{ ev with lost := (s.lane l).outbox.lost }] } } := by
  rcases enterOutbox_cases l ev s with ⟨-, henter⟩ | ⟨hfull, -⟩
  · exact henter
  · exact absurd h (Nat.not_lt.mpr hfull)

/-- A full outbox keeps its events and counts the loss in the lost count and in LOST_EVENTS (R62). -/
theorem enterOutbox_of_full {l : Lane} {s : State} (h : 4 ≤ (s.lane l).outbox.events.length) (ev : RxEvent) :
    enterOutbox l ev s =
      (s.setLane l
        { s.lane l with
          counters := (s.lane l).counters.set LaneCounter.lostEvents.index.val
            (BitVec.ofNat 32 (min (((s.lane l).counter .lostEvents).toNat + 1) (2 ^ 32 - 1)))
          outbox :=
            { (s.lane l).outbox with
              lost := BitVec.ofNat 8 (min ((s.lane l).outbox.lost.toNat + 1) 255) } }).setCaptureList
        (s.captureList ++ if ev.kind = .capture then [ev.aux] else []) := by
  rcases enterOutbox_cases l ev s with ⟨hroom, -⟩ | ⟨-, henter⟩
  · exact absurd h (Nat.not_le.mpr hroom)
  · rw [henter, bump_eq]
    simp only [State.modLane_def, State.setLane_lane_self, State.setLane_setLane, satInc_eq]
    rfl

theorem makeFrame_eq (l : Lane) (ev : RxEvent) (s : State) :
    makeFrame l ev s =
      enterOutbox l ev
        (if (s.lane l).settings.guarded = true ∧ (s.lane l).gateOpen = true then
          s.setLane l { s.lane l with gateDue := some (s.clock + (s.lane l).settings.guardWindow * 1000) }
        else s) := by
  unfold makeFrame
  simp only [Bool.and_eq_true]
  rfl

/-- Settles O36: the two ways of an event (`enterOutbox_of_room`, `enterOutbox_of_full`). -/
theorem outboxTakesOrDiscards : Obligations.OutboxTakesOrDiscards := by
  intro l ev s x counted lost
  refine ⟨fun c => bump_eq l c s, fun hroom => enterOutbox_of_room hroom ev, fun hfull => ⟨fun hk => ?_, fun hk => ?_⟩,
    makeFrame_eq l ev s⟩
  · rw [enterOutbox_of_full hfull, if_neg hk, List.append_nil]
    rfl
  · rw [enterOutbox_of_full hfull, if_pos hk]
    rfl

/-! ## The match table -/

/-- The masked comparison is one of every payload bit of the mask (R74). -/
theorem masked_eq_iff (payload : Payload) (mask value : Mask) :
    payload.setWidth 64 &&& mask = value ↔
      ∀ k : Nat, k < 64 → (payload.getLsbD k && mask.getLsbD k) = value.getLsbD k := by
  have hbit : ∀ k : Nat, k < 64 →
      (payload.setWidth 64 &&& mask).getLsbD k = (payload.getLsbD k && mask.getLsbD k) := by
    intro k hk
    simp [hk]
  constructor
  · rintro rfl k hk
    exact (hbit k hk).symm
  · exact fun h => BitVec.eq_of_getLsbD_eq fun k hk => (hbit k hk).trans (h k hk)

/-- A valid entry that names the frame's lane and profile and compares equal is hit (R74). -/
theorem isHit_iff {e : MatchEntry} {l : Lane} {f : GoodFrame} :
    e.isHit l f = true ↔
      ∃ m, e.filter = some m ∧ m.lanes.getLsbD l.val = true ∧ m.profile = f.profile ∧
        ∀ k : Nat, k < 64 → (f.payload.getLsbD k && m.mask.getLsbD k) = m.value.getLsbD k := by
  unfold MatchEntry.isHit
  cases e.filter with
  | none => simp
  | some m => simp [masked_eq_iff, and_assoc]

theorem firstHit_eq_some {s : State} {l : Lane} {f : GoodFrame} {i : EntryId} :
    s.firstHit l f = some i ↔ (s.entry i).isHit l f = true ∧ ∀ j, j < i → (s.entry j).isHit l f = false := by
  unfold State.firstHit
  rw [List.find?_eq_some_iff_getElem]
  refine and_congr_right fun _ => ⟨?_, fun hbefore => ?_⟩
  · rintro ⟨k, hk, hi, hbefore⟩ j hj
    rw [List.getElem_finRange] at hi
    have hjk : j.val < k := by rw [← hi] at hj; exact hj
    have hmiss := hbefore j.val hjk
    rw [List.getElem_finRange, Bool.not_eq_true'] at hmiss
    exact hmiss
  · refine ⟨i.val, by rw [List.length_finRange]; exact i.isLt, List.getElem_finRange _, fun j hj => ?_⟩
    rw [List.getElem_finRange, Bool.not_eq_true']
    exact hbefore _ hj

theorem firstHit_eq_none {s : State} {l : Lane} {f : GoodFrame} :
    s.firstHit l f = none ↔ ∀ i, (s.entry i).isHit l f = false := by
  unfold State.firstHit
  rw [List.find?_eq_none]
  exact ⟨fun h i => Bool.eq_false_iff.mpr (h i (List.mem_finRange i)), fun h i _ => Bool.eq_false_iff.mp (h i)⟩

theorem lookup_of_hit {s : State} {l : Lane} {f : GoodFrame} {i : EntryId} {m : Filter}
    (hfirst : s.firstHit l f = some i) (hm : (s.entry i).filter = some m) :
    lookup l f s =
      ({ action := m.action, target := m.target, tag := m.tag },
        s.setEntry i { filter := some m,
                       hits := BitVec.ofNat 32 (min ((s.entry i).hits.toNat + 1) (2 ^ 32 - 1)) }) := by
  unfold lookup
  simp only [hfirst, hm, satInc_eq]

theorem lookup_of_no_hit {s : State} {l : Lane} {f : GoodFrame} (hnone : s.firstHit l f = none) :
    lookup l f s =
      ({ action := if (s.lane l).settings.defaultDeliver then .deliver else .drop,
         target := (s.lane l).settings.defaultEq, tag := 0 }, s) := by
  unfold lookup
  rw [hnone]

/-- Settles O38: the first entry hit in index order is the one found (`firstHit_eq_some`). -/
theorem lookupTakesFirstHit : Obligations.LookupTakesFirstHit := by
  intro l f s hits
  have hmiss : ∀ j, (∀ m, ¬ hits j m) → (s.entry j).isHit l f = false := fun j hj =>
    Bool.eq_false_iff.mpr fun hhit => (isHit_iff.mp hhit).elim hj
  refine ⟨fun i m hi hbefore => ?_, fun hnone => ?_⟩
  · exact lookup_of_hit (firstHit_eq_some.mpr ⟨isHit_iff.mpr ⟨m, hi⟩, fun j hj => hmiss j (hbefore j hj)⟩) hi.1
  · exact lookup_of_no_hit (firstHit_eq_none.mpr fun i => hmiss i (hnone i))

end Sys2Proof.Machine
end

section
/-! The press tracker (R66 to R80): what continues the open press, what closes it, and how a new press is judged. -/

namespace Sys2Proof.Machine

open Sys2Proof.Claims

/-! ## Repeats of the open press -/

theorem renewed_eq (p : Press) (start : Moment) (window : Nat) :
    p.renewed start window =
      { p with
        repeatCount := BitVec.ofNat 16 (min (p.repeatCount.toNat + 1) 65535)
        heldDuration := BitVec.ofNat 32
          (min (p.heldDuration.toNat + (BitVec.ofNat 32 start - p.lastTime).toNat) (2 ^ 32 - 1))
        lastTime := BitVec.ofNat 32 start, windowDue := start + window * 1000 } := by
  unfold Press.renewed
  rw [satInc_half, satAdd_eq]
  rfl

/-- The renewed press stands, and an EACH press that is DELIVERING makes its REPEAT event (R68, R76). -/
theorem countRepeat_eq (l : Lane) (p : Press) (start : Moment) (s : State) :
    countRepeat l p start s =
      let p' := p.renewed start (s.profile p.profile).repeatWindow
      let counted := s.setLane l { s.lane l with press := some p' }
      if p.action = .each ∧ p.delivering = true then
        makeFrame l (pressEvent p' .repeat_ 0 (stamp start)) counted
      else counted := by
  unfold countRepeat
  cases p.action <;> cases p.delivering <;> rfl

theorem takeRepeatCode_of_open {l : Lane} {s : State} {p : Press} (h : (s.lane l).press = some p) (start : Moment) :
    takeRepeatCode l p.profile start s = bump l .repeats (countRepeat l p start s) := by
  unfold takeRepeatCode
  simp only [h, if_true]

/-- A repeat code without an open press of its profile is an orphan (R52, R70). -/
theorem takeRepeatCode_of_orphan {l : Lane} {s : State} {i : SlotId}
    (h : ∀ p, (s.lane l).press = some p → p.profile ≠ i) (start : Moment) :
    takeRepeatCode l i start s = bump l .orphans s := by
  unfold takeRepeatCode
  split
  · rfl
  · rename_i p hp
    rw [if_neg (h p hp)]

/-- A frame collapses into a press of its profile with equal contents, where the profile collapses such frames (R68). -/
theorem collapses_iff {s : State} {f : GoodFrame} {p : Press} :
    collapses s f p = true ↔
      p.profile = f.profile ∧ (s.profile f.profile).collapseIdentical = true ∧ p.bitCount = f.bitCount ∧
        p.payload = f.payload := by
  simp [collapses, and_assoc]

theorem takeFrame_of_collapse {l : Lane} {s : State} {f : GoodFrame} {p : Press} (h : (s.lane l).press = some p)
    (hc : collapses s f p = true) : takeFrame l f s = countRepeat l p f.start s := by
  unfold takeFrame
  simp only [h, hc, if_true]

/-- Settles O37: what continues the press renews it (`countRepeat_eq`); a repeat code finds it by its profile. -/
theorem repeatsRenewThePress : Obligations.RepeatsRenewThePress := by
  intro l i start s x
  refine ⟨?_, fun hother => takeRepeatCode_of_orphan hother start⟩
  rintro p hp rfl renewed counted after
  have hafter : countRepeat l p start s = after := by
    rw [countRepeat_eq, renewed_eq]
    rfl
  refine ⟨by rw [takeRepeatCode_of_open hp, hafter], ?_⟩
  rintro f hprofile hcount hpayload rfl hcollapse
  rw [takeFrame_of_collapse hp (collapses_iff.mpr ⟨hprofile.symm, hprofile ▸ hcollapse, hcount.symm, hpayload.symm⟩),
    hafter]

/-! ## The close of a press -/

/-- An open press closes as the manual says, with the END it owes (R72). -/
theorem closePress_eq_closed {l : Lane} {s : State} {p : Press} (h : (s.lane l).press = some p) :
    closePress l s = closed l p s := by
  unfold closePress closed
  simp only [h, Bool.and_eq_true]
  rfl

theorem closePress_of_none {l : Lane} {s : State} (h : (s.lane l).press = none) : closePress l s = s := by
  unfold closePress
  rw [h]

theorem closed_press (l : Lane) (p : Press) (s : State) : ((closed l p s).lane l).press = none := by
  unfold closed
  simp

theorem takeFrame_of_no_press {l : Lane} {s : State} (h : (s.lane l).press = none) (f : GoodFrame) :
    takeFrame l f s = newPress l f s := by
  unfold takeFrame
  rw [h]

/-- A new press begins with the close of an open one, so it begins as after that close (R69). -/
theorem newPress_of_open {l : Lane} {s : State} {p : Press} (h : (s.lane l).press = some p) (f : GoodFrame) :
    newPress l f s = newPress l f (closed l p s) := by
  unfold newPress
  rw [closePress_eq_closed h, closePress_of_none (closed_press l p s)]

theorem takeFrame_of_other {l : Lane} {s : State} {f : GoodFrame} {p : Press} (h : (s.lane l).press = some p)
    (hc : collapses s f p ≠ true) : takeFrame l f s = takeFrame l f (closed l p s) := by
  rw [takeFrame_of_no_press (closed_press l p s), ← newPress_of_open h]
  unfold takeFrame
  simp only [h, if_neg hc]

/-! ## The judgement of a new press -/

theorem continuesPresses_iff {p : Profile} :
    p.continuesPresses = true ↔ p.repeatMark ≠ 0 ∨ p.collapseIdentical = true := by
  simp [Profile.continuesPresses, Profile.hasRepeat]

/-- The context that opens for a frame judged `v` (R69 (5)). -/
def GoodFrame.press (f : GoodFrame) (v : Verdict) (window : Nat) (delivering endOwed : Bool) : Press :=
  { profile := f.profile, bitCount := f.bitCount, payload := f.payload, firstTime := stamp f.start,
    lastTime := stamp f.start, heldDuration := 0, repeatCount := 0, action := v.action, target := v.target,
    tag := v.tag, delivering := delivering, endOwed := endOwed, windowDue := f.start + window * 1000 }

/-- A context opens when the profile continues presses and the action is not DROP (R69 (5)). -/
theorem openPress_eq (l : Lane) (f : GoodFrame) (v : Verdict) (d e : Bool) (s : State) :
    openPress l f v d e s =
      if (s.profile f.profile).continuesPresses = true ∧ v.action ≠ .drop then
        s.setLane l { s.lane l with press := some (f.press v (s.profile f.profile).repeatWindow d e) }
      else s := by
  unfold openPress
  simp only [Bool.and_eq_true, bne_iff_ne]
  rfl

/-- A lookup moves a hit count and leaves every lane (R74). -/
theorem lookup_lane (l l' : Lane) (f : GoodFrame) (s : State) : (lookup l f s).2.lane l' = s.lane l' := by
  unfold lookup
  split
  · split <;> rfl
  · rfl

section Judged

variable {l : Lane} {f : GoodFrame} {s t : State} {v : Verdict}

theorem lookup_profile (hlookup : lookup l f s = (v, t)) (i : SlotId) : t.profile i = s.profile i := by
  simpa [hlookup] using (onlyLane_lookup l f s).profile i

/-- Without an open press a frame is judged by what the lookup answers (R69, R79, R80). -/
theorem takeFrame_judged (hpress : (s.lane l).press = none) (hlookup : lookup l f s = (v, t)) :
    takeFrame l f s =
      let first := firstEvent v.action (s.profile f.profile).continuesPresses
      if (s.lane l).settings.guarded = true ∧ (s.lane l).gateOpen = false then
        if v.action = .wake then
          openPress l f v true false
            (makeFrame l (frameEvent f .single true v.target v.tag (stamp f.start))
              (t.setLane l { t.lane l with gateOpen := true }))
        else openPress l f v false first.2 t
      else openPress l f v true first.2 (firstEvents l f v first.1 t) := by
  have hlane : t.lane l = s.lane l := by simpa [hlookup] using lookup_lane l l f s
  rw [takeFrame_of_no_press hpress]
  unfold newPress
  rw [closePress_of_none hpress]
  simp only [hlookup, hlane, lookup_profile hlookup, State.modLane_def, Bool.and_eq_true, Bool.not_eq_true']

/-- With the gate OPEN, or on an unguarded lane, the action's first event is made (R76, R80). -/
theorem takeFrame_delivered (hpress : (s.lane l).press = none) (hlookup : lookup l f s = (v, t))
    (hgate : (s.lane l).settings.guarded = false ∨ (s.lane l).gateOpen = true) :
    takeFrame l f s =
      openPress l f v true (firstEvent v.action (s.profile f.profile).continuesPresses).2
        (firstEvents l f v (firstEvent v.action (s.profile f.profile).continuesPresses).1 t) := by
  rw [takeFrame_judged hpress hlookup]
  refine if_neg ?_
  rintro ⟨hguarded, hclosed⟩
  rcases hgate with h | h
  · rw [h] at hguarded; cases hguarded
  · rw [h] at hclosed; cases hclosed

theorem gate_closed (hgate : ¬ ((s.lane l).settings.guarded = false ∨ (s.lane l).gateOpen = true)) :
    (s.lane l).settings.guarded = true ∧ (s.lane l).gateOpen = false := by
  rw [not_or, Bool.not_eq_false, Bool.not_eq_true] at hgate
  exact hgate

/-- With the gate CLOSED a WAKE opens it and makes its wake event (R80). -/
theorem takeFrame_woken (hpress : (s.lane l).press = none) (hlookup : lookup l f s = (v, t))
    (hgate : ¬ ((s.lane l).settings.guarded = false ∨ (s.lane l).gateOpen = true)) (hwake : v.action = .wake) :
    takeFrame l f s =
      openPress l f v true false
        (makeFrame l (frameEvent f .single true v.target v.tag (stamp f.start))
          (t.setLane l { t.lane l with gateOpen := true })) := by
  rw [takeFrame_judged hpress hlookup]
  exact (if_pos (gate_closed hgate)).trans (if_pos hwake)

/-- With the gate CLOSED any other press is judged silently (R79). -/
theorem takeFrame_silent (hpress : (s.lane l).press = none) (hlookup : lookup l f s = (v, t))
    (hgate : ¬ ((s.lane l).settings.guarded = false ∨ (s.lane l).gateOpen = true)) (hwake : v.action ≠ .wake) :
    takeFrame l f s =
      openPress l f v false (firstEvent v.action (s.profile f.profile).continuesPresses).2 t := by
  rw [takeFrame_judged hpress hlookup]
  exact (if_pos (gate_closed hgate)).trans (if_neg hwake)

/-! ### By the profile -/

/-- The press of a frame judged `v` is the lane's open press. -/
def opened (l : Lane) (f : GoodFrame) (v : Verdict) (window : Nat) (delivering endOwed : Bool) (u : State) : State :=
  u.setLane l { u.lane l with press := some (f.press v window delivering endOwed) }

theorem openPress_of_continues {u : State} (hu : u.profile f.profile = s.profile f.profile)
    (hcont : (s.profile f.profile).continuesPresses = true) (hdrop : v.action ≠ .drop) (d e : Bool) :
    openPress l f v d e u = opened l f v (s.profile f.profile).repeatWindow d e u := by
  rw [openPress_eq, hu, if_pos ⟨hcont, hdrop⟩]
  rfl

theorem openPress_of_single {u : State} (hu : u.profile f.profile = s.profile f.profile)
    (hcont : (s.profile f.profile).continuesPresses = false) (d e : Bool) : openPress l f v d e u = u := by
  rw [openPress_eq, hu, if_neg (by simp [hcont])]

theorem openPress_of_drop (hdrop : v.action = .drop) (d e : Bool) (u : State) : openPress l f v d e u = u := by
  rw [openPress_eq, if_neg (by simp [hdrop])]

theorem takeFrame_drop (hpress : (s.lane l).press = none) (hlookup : lookup l f s = (v, t))
    (hdrop : v.action = .drop) : takeFrame l f s = t := by
  by_cases hgate : (s.lane l).settings.guarded = false ∨ (s.lane l).gateOpen = true
  · rw [takeFrame_delivered hpress hlookup hgate, openPress_of_drop hdrop, hdrop]
    rfl
  · rw [takeFrame_silent hpress hlookup hgate (by simp [hdrop]), openPress_of_drop hdrop]

theorem takeFrame_delivered_continues (hpress : (s.lane l).press = none) (hlookup : lookup l f s = (v, t))
    (hgate : (s.lane l).settings.guarded = false ∨ (s.lane l).gateOpen = true)
    (hcont : (s.profile f.profile).continuesPresses = true) (hdrop : v.action ≠ .drop) :
    takeFrame l f s =
      opened l f v (s.profile f.profile).repeatWindow true (firstEvent v.action true).2
        (firstEvents l f v (firstEvent v.action true).1 t) := by
  rw [takeFrame_delivered hpress hlookup hgate, hcont]
  exact openPress_of_continues
    (((onlyLane_firstEvents l f v _ t).profile f.profile).trans (lookup_profile hlookup _)) hcont hdrop _ _

theorem takeFrame_delivered_single (hpress : (s.lane l).press = none) (hlookup : lookup l f s = (v, t))
    (hgate : (s.lane l).settings.guarded = false ∨ (s.lane l).gateOpen = true)
    (hcont : (s.profile f.profile).continuesPresses = false) :
    takeFrame l f s = firstEvents l f v (firstEvent v.action false).1 t := by
  rw [takeFrame_delivered hpress hlookup hgate, hcont]
  exact openPress_of_single
    (((onlyLane_firstEvents l f v _ t).profile f.profile).trans (lookup_profile hlookup _)) hcont _ _

theorem takeFrame_silent_continues (hpress : (s.lane l).press = none) (hlookup : lookup l f s = (v, t))
    (hgate : ¬ ((s.lane l).settings.guarded = false ∨ (s.lane l).gateOpen = true))
    (hcont : (s.profile f.profile).continuesPresses = true) (hwake : v.action ≠ .wake) (hdrop : v.action ≠ .drop) :
    takeFrame l f s = opened l f v (s.profile f.profile).repeatWindow false (firstEvent v.action true).2 t := by
  rw [takeFrame_silent hpress hlookup hgate hwake, hcont]
  exact openPress_of_continues (lookup_profile hlookup _) hcont hdrop _ _

theorem takeFrame_silent_single (hpress : (s.lane l).press = none) (hlookup : lookup l f s = (v, t))
    (hgate : ¬ ((s.lane l).settings.guarded = false ∨ (s.lane l).gateOpen = true))
    (hcont : (s.profile f.profile).continuesPresses = false) (hwake : v.action ≠ .wake) : takeFrame l f s = t := by
  rw [takeFrame_silent hpress hlookup hgate hwake]
  exact openPress_of_single (lookup_profile hlookup _) hcont _ _

theorem woken_profile (hlookup : lookup l f s = (v, t)) (ev : RxEvent) (x : LaneState) :
    (makeFrame l ev (t.setLane l x)).profile f.profile = s.profile f.profile :=
  ((onlyLane_makeFrame l ev _).profile f.profile).trans (lookup_profile hlookup _)

end Judged

/-- Settles O39: the close of an open press first (`takeFrame_of_other`), then the verdict by gate, profile and action
(`takeFrame_delivered`, `takeFrame_woken`, `takeFrame_silent`). -/
theorem newPressIsJudged : Obligations.NewPressIsJudged := by
  intro l f s x
  refine ⟨fun p hp hother => takeFrame_of_other hp (mt collapses_iff.mp hother), ?_⟩
  intro v t hpress hlookup continues delivers event opens woken
  have hyes : continues → (s.profile f.profile).continuesPresses = true := continuesPresses_iff.mpr
  have hno : ¬ continues → (s.profile f.profile).continuesPresses = false := fun h =>
    Bool.eq_false_iff.mpr (mt continuesPresses_iff.mp h)
  refine ⟨takeFrame_drop hpress hlookup, fun ha => ⟨fun hc => ?_, fun hc => ?_⟩, fun hd hc => ?_, fun hd hc => ?_,
    fun hd ha => ⟨fun hc => ?_, fun hc => ?_⟩, fun hd ha => ⟨fun hc => ?_, fun hc => ?_⟩⟩
  · by_cases hd : delivers
    · rw [takeFrame_delivered_continues hpress hlookup hd (hyes hc) (by simp [ha]), ha, decide_eq_true hd]
      rfl
    · rw [takeFrame_silent_continues hpress hlookup hd (hyes hc) (by simp [ha]) (by simp [ha]), ha, decide_eq_false hd]
      rfl
  · by_cases hd : delivers
    · rw [takeFrame_delivered_single hpress hlookup hd (hno hc), ha]
      rfl
    · exact takeFrame_silent_single hpress hlookup hd (hno hc) (by simp [ha])
  · have hopens := takeFrame_delivered_continues hpress hlookup hd (hyes hc)
    refine ⟨fun ha => ?_, fun ha => ?_, fun ha => ?_, fun ha => ?_⟩
    · rw [hopens (by simp [ha]), ha]; rfl
    · rw [hopens (by simp [ha]), ha]; rfl
    · rcases ha with ha | ha <;> rw [hopens (by simp [ha]), ha] <;> rfl
    · rcases ha with ha | ha <;> rw [hopens (by simp [ha]), ha] <;> rfl
  · have hmakes := takeFrame_delivered_single hpress hlookup hd (hno hc)
    refine ⟨fun ha => ?_, fun ha => ?_⟩
    · rw [hmakes, ha]
      have hbase : t.timeBase = stamp s.clock := by
        have hclock := (onlyLane_lookup l f s).clock
        rw [hlookup] at hclock
        exact congrArg stamp hclock
      show makeFrame l (frameEvent f .end_ false v.target v.tag t.timeBase) t = _
      rw [hbase]
      rfl
    · rcases ha with ha | ha | ha | ha | ha <;> rw [hmakes, ha] <;> rfl
  · rw [takeFrame_woken hpress hlookup hd ha]
    exact openPress_of_continues (woken_profile hlookup _ _) (hyes hc) (by simp [ha]) _ _
  · rw [takeFrame_woken hpress hlookup hd ha]
    exact openPress_of_single (woken_profile hlookup _ _) (hno hc) _ _
  · have hopens := takeFrame_silent_continues hpress hlookup hd (hyes hc)
    rcases ha with ha | ha | ha | ha | ha <;> rw [hopens (by simp [ha]) (by simp [ha]), ha] <;> rfl
  · exact takeFrame_silent_single hpress hlookup hd (hno hc)
      (by rcases ha with ha | ha | ha | ha | ha <;> simp [ha])

end Sys2Proof.Machine
end

section
/-! The timers of the receive side (R32, R55, R71, R80): presses, gates, and the withdrawal of the blind condition. -/

namespace Sys2Proof.Machine

open Sys2Proof.Claims

/-! ## Presses and gates -/

theorem exec_repeatWindowExpiry {l : Lane} {s : State} {p : Press} (h : (s.lane l).press = some p) :
    exec (.repeatWindowExpiry l) s =
      .next (if p.windowDue ≤ s.clock then chooseEvent (closePress l s) else s) := by
  simp only [exec, execRepeatWindowExpiry, h]

theorem exec_gateWindowExpiry (l : Lane) (s : State) :
    exec (.gateWindowExpiry l) s =
      .next (if expired (s.lane l).gateDue s.clock then
        s.setLane l { s.lane l with gateOpen := false, gateDue := none } else s) := rfl

theorem exec_echoGuardExpiry (l : Lane) (s : State) :
    exec (.echoGuardExpiry l) s =
      .next (if expired (s.lane l).echoDue s.clock then chooseEvent (withdrawBlind l s) else s) := rfl

theorem expired_some {due now : Moment} : expired (some due) now = true ↔ due ≤ now := by simp [expired]

/-! ## The withdrawal of the blind condition -/

/-- The filter of a lane whose blind condition is withdrawn: the interval in progress will not be handed (R33). -/
def InputFilter.seen (f : InputFilter) (now : Moment) : InputFilter :=
  { f with handed := false, unblinded := some now }

/-- A state with the blind condition of lane `l` withdrawn, its decoder still BLIND (R32, R33). -/
def unblinded (l : Lane) (s : State) : State :=
  s.setLane l
    { s.lane l with blind := false, echoDue := none, filter := (s.lane l).filter.map (·.seen s.clock) }

/-- A mark is past the stuck-mark limit and not reported, and no excursion that began before the limit is pending (R55,
log entry 33). -/
def InputFilter.Late (f : InputFilter) (now : Moment) : Prop :=
  f.mark = true ∧ f.stuckReported = false ∧ f.firstEdge + 65535 ≤ now ∧
    ∀ e, f.excursion = some e → f.firstEdge + 65535 ≤ e

theorem withdrawBlind_of_clear {l : Lane} {s : State} (h : (s.lane l).blind = false) :
    withdrawBlind l s = s.setLane l { s.lane l with echoDue := none } := by
  unfold withdrawBlind
  rw [h]
  rfl

theorem withdrawBlind_of_blind {l : Lane} {s : State} (h : (s.lane l).blind = true) :
    withdrawBlind l s = crossingsAtOnce l (enterHunt l (unblinded l s)) := by
  unfold withdrawBlind
  rw [if_pos h]
  rfl

theorem unblinded_lane (l : Lane) (s : State) :
    (unblinded l s).lane l =
      { s.lane l with blind := false, echoDue := none, filter := (s.lane l).filter.map (·.seen s.clock) } :=
  State.setLane_lane_self s l _

/-- The entry into HUNT leaves the filter as the withdrawal left it. -/
theorem enterHunt_unblinded_filter (l : Lane) (s : State) :
    ((enterHunt l (unblinded l s)).lane l).filter = (s.lane l).filter.map (·.seen s.clock) := by
  have hkept : ((enterHunt l (unblinded l s)).receiver l).1 = ((unblinded l s).receiver l).1 := by
    rcases enterHunt_receiver l (unblinded l s) with h | h <;> rw [h]
  rw [← State.receiver_fst, hkept, State.receiver_fst, unblinded_lane]

theorem crossingsAtOnce_of_no_filter {l : Lane} {s : State} (h : (s.lane l).filter = none) :
    crossingsAtOnce l s = s := by
  unfold crossingsAtOnce
  rw [h]

theorem crossingsAtOnce_of_filter {l : Lane} {s : State} {f : InputFilter} (h : (s.lane l).filter = some f) :
    crossingsAtOnce l s = reportCrossings l (min s.clock (f.excursion.getD s.clock)) crossingChain s := by
  unfold crossingsAtOnce
  rw [h]

/-- What is reported at once is what was passed when the pending excursion began, or now without one. -/
theorem late_iff {f : InputFilter} {now : Moment} :
    f.Late now ↔ f.mark = true ∧ f.stuckReported = false ∧ f.firstEdge + 65535 ≤ min now (f.excursion.getD now) := by
  unfold InputFilter.Late
  cases f.excursion with
  | none =>
    simp only [Nat.le_min, Option.getD_none, and_self, reduceCtorEq, false_implies, implies_true, and_true]
  | some e => simp only [Nat.le_min, Option.getD_some, Option.some.injEq, forall_eq']

/-- A decoder in HUNT or BLIND names no threshold but the stuck-mark limit (R39). -/
theorem named_of_rests {s : State} {l : Lane} (h : (s.receiver l).2.Rests) {mark : Bool} {n : Nat}
    (hn : s.namedThreshold l mark = some n) : mark = true ∧ n = 65535 := by
  cases mark with
  | false => rw [unnamed_of_rests h] at hn; cases hn
  | true =>
    rcases h with ⟨since, hd⟩ | hd
    · rw [namedThreshold_eq (d := .hunt since) hd] at hn
      cases hn
      exact ⟨rfl, rfl⟩
    · rw [namedThreshold_eq (d := .blind) hd] at hn
      cases hn

/-- Where the entry into HUNT leaves nothing passed, the withdrawal is that entry (R32, R33). -/
theorem withdrawBlind_of_unreached {l : Lane} {s : State} (hblind : (s.lane l).blind = true)
    (h : ∀ f, (s.lane l).filter = some f →
      (enterHunt l (unblinded l s)).Unreached l (f.seen s.clock) (min s.clock (f.excursion.getD s.clock))) :
    withdrawBlind l s = hunting l (unblinded l s) := by
  have hfilter := enterHunt_unblinded_filter l s
  have hclock : (enterHunt l (unblinded l s)).clock = s.clock := (onlyLane_enterHunt l _).clock
  rw [withdrawBlind_of_blind hblind, ← enterHunt_eq_hunting]
  cases hf : (s.lane l).filter with
  | none => exact crossingsAtOnce_of_no_filter (by rw [hfilter, hf]; rfl)
  | some f =>
    rw [hf, Option.map_some] at hfilter
    rw [crossingsAtOnce_of_filter hfilter, hclock]
    exact reportCrossings_of_unreached hfilter (h f hf) _

/-- With no mark to report the withdrawal is the decoder's entry into HUNT (R55, log entry 33). -/
theorem withdrawBlind_of_not_late {l : Lane} {s : State} (hblind : (s.lane l).blind = true)
    (h : ∀ f, (s.lane l).filter = some f → ¬ f.Late s.clock) : withdrawBlind l s = hunting l (unblinded l s) := by
  refine withdrawBlind_of_unreached hblind fun f hf n hn => ?_
  obtain ⟨hmark, rfl⟩ := named_of_rests (enterHunt_rests l _) hn
  rcases Nat.lt_or_ge (min s.clock (f.excursion.getD s.clock)) (f.firstEdge + 65535) with hearly | hpassed
  · exact .inl hearly
  · cases hnew : f.stuckReported with
    | false => exact absurd (late_iff.mpr ⟨hmark, hnew, hpassed⟩) (h f hf)
    | true => exact .inr ⟨hmark, hnew⟩

/-- A start on a SHARED lane that is not blind blinds its decoder (R32, R33). -/
theorem onAir_decoder {l : Lane} {s : State} (hshared : (s.lane l).settings.mode = .shared)
    (hclear : (s.lane l).blind = false) (r : ActiveRequest) (forced : Bool) :
    ((onAir l r forced s).lane l).decoder = .blind := by
  unfold onAir
  simp [hshared, hclear]

/-- A deferred transmission on a SHARED lane starts at the withdrawal and blinds the decoder again (log entry 31). -/
theorem withdrawBlind_of_defer {l : Lane} {s : State} (hblind : (s.lane l).blind = true)
    (hdefer : (s.lane l).seq.state = .defer) (hactive : (s.lane l).seq.active.isSome)
    (hshared : (s.lane l).settings.mode = .shared) : withdrawBlind l s = hunting l (unblinded l s) := by
  obtain ⟨r, hr⟩ := Option.isSome_iff_exists.mp hactive
  have hdecoder : ((enterHunt l (unblinded l s)).lane l).decoder = .blind := by
    rw [enterHunt_eq_hunting]
    unfold hunting
    simp only [unblinded_lane, hdefer, hr]
    exact onAir_decoder (by rw [State.setLane_lane_self]; exact hshared) (by rw [State.setLane_lane_self]) r false
  refine withdrawBlind_of_unreached hblind fun f _ => .of_unnamed ?_
  rw [namedThreshold_eq hdecoder]
  split <;> rfl

/-- A sequencer that does not wait in DEFER takes no part in the entry into HUNT (R96). -/
theorem enterHunt_of_not_defer {l : Lane} {s : State} (h : (s.lane l).seq.state ≠ .defer) :
    enterHunt l s = setDecoder l (.hunt s.clock) s := by
  rw [enterHunt_eq_hunting]
  unfold hunting
  split
  · rename_i hs _; exact absurd hs h
  · rfl

/-- An event enters the outbox alike, whatever state the decoder is in. -/
theorem enterOutbox_setDecoder (l : Lane) (ev : RxEvent) (d : Decoder) (s : State) :
    enterOutbox l ev (setDecoder l d s) = setDecoder l d (enterOutbox l ev s) := by
  have hbox : ((setDecoder l d s).lane l).outbox = (s.lane l).outbox := by rw [setDecoder_lane]
  by_cases hroom : (s.lane l).outbox.events.length < 4
  · rw [enterOutbox_of_room hroom, enterOutbox_of_room (by rw [hbox]; exact hroom)]
    simp [setDecoder, State.modLane_def]
  · rw [enterOutbox_of_full (Nat.not_lt.mp hroom), enterOutbox_of_full (by rw [hbox]; exact Nat.not_lt.mp hroom)]
    simp [setDecoder, State.modLane_def, LaneState.counter]

theorem setDecoder_setDecoder (l : Lane) (d d' : Decoder) (s : State) :
    setDecoder l d (setDecoder l d' s) = setDecoder l d s := by
  unfold setDecoder
  rw [State.modLane_modLane]
  rfl

/-- A mark that is past the limit is reported at the withdrawal, and the decoder drains (R55). -/
theorem withdrawBlind_of_late {l : Lane} {s : State} {f : InputFilter} (hblind : (s.lane l).blind = true)
    (hf : (s.lane l).filter = some f) (hlate : f.Late s.clock) (hdefer : (s.lane l).seq.state ≠ .defer) :
    withdrawBlind l s = lineStuck l f.firstEdge (setDecoder l (.hunt s.clock) (unblinded l s)) := by
  have henter : enterHunt l (unblinded l s) = setDecoder l (.hunt s.clock) (unblinded l s) :=
    enterHunt_of_not_defer (by rw [unblinded_lane]; exact hdefer)
  have hfilter := enterHunt_unblinded_filter l s
  rw [hf, Option.map_some] at hfilter
  obtain ⟨hmark, hnew, hpassed⟩ := late_iff.mp hlate
  rw [withdrawBlind_of_blind hblind, crossingsAtOnce_of_filter hfilter]
  rw [henter] at hfilter ⊢
  have hnamed : (setDecoder l (.hunt s.clock) (unblinded l s)).namedThreshold l true = some 65535 :=
    namedThreshold_eq (d := .hunt s.clock) (by rw [setDecoder_lane]) true
  have hcross : (setDecoder l (.hunt s.clock) (unblinded l s)).crossingBy l
      (min s.clock (f.excursion.getD s.clock)) = some (f.seen s.clock, 65535) :=
    crossingBy_eq_some.mpr ⟨hfilter, by rw [show (f.seen s.clock).mark = true from hmark]; exact hnamed, hpassed,
      by simp [InputFilter.seen, hnew]⟩
  have htake : takeCrossing l (f.seen s.clock).mark (f.seen s.clock).firstEdge 65535
      (setDecoder l (.hunt s.clock) (unblinded l s)) =
      lineStuck l f.firstEdge (setDecoder l (.hunt s.clock) (unblinded l s)) := by
    rw [show (f.seen s.clock).mark = true from hmark]
    rfl
  have hdrained := takeCrossing_filter hfilter 65535
  refine (reportCrossings_succ hcross 3).trans ?_
  rw [htake] at hdrained ⊢
  refine reportCrossings_of_unreached hdrained (.of_unnamed ?_) 3
  rw [namedThreshold_eq (congrArg Prod.snd (lineStuck_receiver l f.firstEdge _))]
  split <;> rfl

/-- A mark stuck while the decoder is in HUNT: the notice, and the decoder drains until the mark ends (R55). -/
theorem lineStuck_hunting {l : Lane} {s : State} {f : InputFilter} (hf : (s.lane l).filter = some f)
    (since edge : Moment) :
    lineStuck l edge (setDecoder l (.hunt since) s) =
      setDecoder l (.drain .stuck)
        (enterOutbox l
          { kind := .notice, status := .lineStuck, target := (s.lane l).settings.defaultEq, profile := 0, bitCount := 0,
            payload := 0, phase := .single, wake := false, repeatCount := 0, tag := 0, aux := 0,
            timestamp := BitVec.ofNat 32 edge, lost := 0 }
          (s.setLane l { s.lane l with filter := some { f with stuckReported := true } })) := by
  have hkept : abandonWork l (setDecoder l (.hunt since) s) = setDecoder l (.hunt since) s := by
    unfold abandonWork
    rw [setDecoder_lane]
    rfl
  have hnoted : ((setDecoder l (.hunt since) s).modLane l fun x =>
        { x with filter := x.filter.map fun g => { g with stuckReported := true } }) =
      setDecoder l (.hunt since) (s.setLane l { s.lane l with filter := some { f with stuckReported := true } }) := by
    simp [setDecoder, State.modLane_def, hf]
  unfold lineStuck
  rw [hkept, hnoted]
  dsimp only
  rw [enterOutbox_setDecoder, setDecoder_setDecoder, setDecoder_lane, State.setLane_lane_self]
  rfl

/-- Settles O41: each timer before and at its moment, and the withdrawal by whether a mark is late
(`withdrawBlind_of_not_late`, `withdrawBlind_of_late`) and a transmission deferred (`withdrawBlind_of_defer`). -/
theorem receiveTimersExpire : Obligations.ReceiveTimersExpire := by
  intro l s x seen clear late
  refine ⟨fun p hp => ?_, fun due hdue => ?_, fun due hdue => ?_, withdrawBlind_of_clear, withdrawBlind_of_not_late,
    fun f hblind hf hlate => ⟨fun hdefer => ?_, fun hdefer hactive hshared => ?_⟩⟩
  · rw [exec_repeatWindowExpiry hp, closePress_eq_closed hp]
    exact ⟨fun hle => by rw [if_pos hle], fun hlt => by rw [if_neg (Nat.not_le.mpr hlt)]⟩
  · rw [exec_gateWindowExpiry, hdue]
    exact ⟨fun hle => by rw [if_pos (expired_some.mpr hle)],
      fun hlt => by rw [if_neg (mt expired_some.mp (Nat.not_le.mpr hlt))]⟩
  · rw [exec_echoGuardExpiry, hdue]
    exact ⟨fun hle => by rw [if_pos (expired_some.mpr hle)],
      fun hlt => by rw [if_neg (mt expired_some.mp (Nat.not_le.mpr hlt))]⟩
  · intro notified
    have hseen : ((unblinded l s).lane l).filter = some (f.seen s.clock) := by rw [unblinded_lane, hf]; rfl
    have hsettings : ((unblinded l s).lane l).settings = (s.lane l).settings := by rw [unblinded_lane]
    rw [withdrawBlind_of_late hblind hf hlate hdefer, lineStuck_hunting hseen, hsettings]
    rfl
  · exact withdrawBlind_of_defer hblind hdefer hactive hshared

end Sys2Proof.Machine
end

section
/-! RELEASE (R107, R156): which hold it ends, and what its end does to the lane's sequencer. -/

namespace Sys2Proof.Machine

open Sys2Proof.Claims

/-! ## The lane a command names -/

theorem toFour_eq {x : Byte} {i : Fin 4} (h : x.toNat = i.val) : toFour x = i :=
  Fin.ext (by simp only [toFour, h]; exact Nat.mod_eq_of_lt i.isLt)

theorem laneOnlyChecks_pass {lane : Byte} {l : Lane} (h : lane.toNat = l.val) :
    firstBad (laneOnlyChecks lane) = none := by
  have hwithin : within 0 3 lane.toNat = true := within_iff.mpr ⟨Nat.zero_le _, by have := l.isLt; omega⟩
  simp [laneOnlyChecks, firstBad, hwithin]

theorem decided_some (tag : Half) (refusal : Code) (t s : State) :
    decided tag refusal (some t) s = answered t .ok tag 0 0 := rfl

theorem decided_none (tag : Half) (refusal : Code) (s : State) :
    decided tag refusal none s = answered s refusal tag 0 0 := rfl

/-! ## The end of a hold -/

/-- A completion is the sequencer's POSTING with every wait over (R98, R99). -/
theorem complete_eq_posting (l : Lane) (c : Completion) (s : State) :
    complete l c s = s.setLane l { s.lane l with seq := posting (s.lane l).seq c } := rfl

theorem completionOf_eq_completion (l : Lane) (status : Code) (tag : Half) (profile : Byte) (count : Half)
    (detail : Byte) (s : State) :
    completionOf l status tag profile count detail s = completion s l status tag profile count detail := rfl

/-- Setting the end cause touches nothing that a completion reports. -/
theorem completion_setEndCause (l : Lane) (r : ActiveRequest) (cause : Option Code) (status : Code) (tag : Half)
    (profile : Byte) (count : Half) (detail : Byte) (s : State) :
    completion (setEndCause l r cause s) l status tag profile count detail =
      completion s l status tag profile count detail := by
  simp [completion, setEndCause]

/-- A hold that ends with nothing on the line completes at once, and its record keeps the end cause (R105, R107). -/
theorem endHold_eq (l : Lane) (r : ActiveRequest) (cause : Code) (s : State) :
    endHold l r cause s =
      s.setLane l { s.lane l with
        seq := { posting (s.lane l).seq (completion s l cause r.entry.tag r.entry.profile r.started 0) with
                 active := some { r with endCause := some cause } } } := by
  unfold endHold finish
  rw [complete_eq_posting, completionOf_eq_completion, completion_setEndCause]
  simp [setEndCause, State.modSeq_def, posting]

/-! ## The hold a RELEASE ends -/

/-- A RELEASE ends the active HOLD that bears its tag, has no end cause yet and has not been completed (R107). -/
theorem Sequencer.releasable_eq_some_iff {q : Sequencer} {tag : Half} {r : ActiveRequest} :
    q.releasable tag = some r ↔
      q.active = some r ∧ r.kind = .hold ∧ r.entry.tag = tag ∧ r.endCause = none ∧ q.state ≠ .posting := by
  unfold Sequencer.releasable
  cases q.active with
  | none => simp
  | some a =>
    simp only [Option.ite_none_right_eq_some, Option.some.injEq]
    exact ⟨fun ⟨h, heq⟩ => heq ▸ ⟨rfl, h⟩, fun ⟨heq, h⟩ => ⟨heq ▸ h, heq⟩⟩

theorem Sequencer.releasable_eq_none {q : Sequencer} {tag : Half}
    (h : q.state = .posting ∨
      ∀ r, q.active = some r → r.kind ≠ .hold ∨ r.entry.tag ≠ tag ∨ r.endCause ≠ none) :
    q.releasable tag = none := by
  refine Option.eq_none_iff_forall_ne_some.mpr fun r hr => ?_
  obtain ⟨hactive, hkind, htag, hcause, hstate⟩ := Sequencer.releasable_eq_some_iff.mp hr
  rcases h with hposting | hother
  · exact hstate hposting
  · rcases hother r hactive with hne | hne | hne
    · exact hne hkind
    · exact hne htag
    · exact hne hcause

section
variable {l : Lane} {tag : Half} {s : State} {r : ActiveRequest}

theorem releaseHold_of_none (h : (s.lane l).seq.releasable tag = none) : releaseHold l tag s = none := by
  unfold releaseHold
  simp only [h]

/-- With a transmission on the line the hold begins to end and the transmission runs on (R107). -/
theorem releaseHold_of_sending (h : (s.lane l).seq.releasable tag = some r) (hstate : (s.lane l).seq.state = .sending) :
    releaseHold l tag s = some (enterEnding l r .released s) := by
  unfold releaseHold
  simp only [h, hstate]

/-- Between transmissions the hold ends at once (R107). -/
theorem releaseHold_of_waiting (h : (s.lane l).seq.releasable tag = some r)
    (hstate : (s.lane l).seq.state = .gap ∨ (s.lane l).seq.state = .defer ∨ (s.lane l).seq.state = .holding) :
    releaseHold l tag s = some (endHold l r .released s) := by
  unfold releaseHold
  rcases hstate with hstate | hstate | hstate <;> simp only [h, hstate]

end

/-! ## The command -/

/-- RELEASE decides on the state with its entry taken, by the lane's claim (R107, R156). -/
theorem exec_release {s : State} {adm : AdminQueue} {lane : Byte} {l : Lane} (h : EntryRead s adm)
    (hl : lane.toNat = l.val) (tag holdTag : Half) :
    exec (.release tag lane holdTag) s =
      .next (chooseEvent
        (decided tag .notHolding (releaseHold l holdTag (taken s adm)) (taken s adm))) := by
  rw [show exec (.release tag lane holdTag) s =
    .next (takeCommand (checked tag (laneOnlyChecks lane) fun s =>
      decided tag .notHolding (releaseHold (toFour lane) holdTag s) s) s) from rfl,
    checked_of_pass (laneOnlyChecks_pass hl), takeCommand_of_entryRead h, toFour_eq hl]

/-- Settles O29: the claim is accepted exactly for a releasable hold (`Sequencer.releasable_eq_some_iff`), and acts by
the sequencer's state (`releaseHold_of_sending`, `releaseHold_of_waiting`). -/
theorem releaseEndsHold : Obligations.ReleaseEndsHold := by
  intro tag lane holdTag s adm l hread hl t x ends
  have hexec := exec_release hread hl tag holdTag
  refine ⟨fun r hactive hkind htag hcause => ?_, fun hother => ?_⟩
  · have hheld (hstate : x.seq.state ≠ .posting) : (t.lane l).seq.releasable holdTag = some r :=
      Sequencer.releasable_eq_some_iff.mpr ⟨hactive, hkind, htag, hcause, hstate⟩
    refine ⟨fun hsending => ?_, fun hwaiting => ?_⟩
    · rw [hexec, releaseHold_of_sending (hheld (by simp [hsending])) hsending, decided_some]
      rfl
    · have hstate : x.seq.state ≠ .posting := by rcases hwaiting with h | h | h <;> simp [h]
      rw [hexec, releaseHold_of_waiting (hheld hstate) hwaiting, decided_some, endHold_eq, htag]
      rfl
  · have hnone : (t.lane l).seq.releasable holdTag = none := Sequencer.releasable_eq_none hother
    rw [hexec, releaseHold_of_none hnone, decided_none]

end Sys2Proof.Machine
end

section
/-! The interrupt output (R134): its eleven sources, and the state an engine stop or a reset leaves of them. -/

namespace Sys2Proof.Machine

/-! ## The sources -/

/-- Something holds of one of the event queues in the state's vector exactly when it does of a numbered queue. -/
theorem any_eqs_iff {s : State} {p : EventQueue → Bool} :
    s.eqs.toList.any p = true ↔ ∃ q : EqId, p (s.eq q) = true := by
  simp only [List.any_eq_true, Vector.mem_toList_iff, Vector.mem_iff_getElem]
  constructor
  · rintro ⟨x, ⟨i, hi, rfl⟩, hp⟩
    exact ⟨⟨i, hi⟩, hp⟩
  · rintro ⟨q, hp⟩
    exact ⟨s.eq q, ⟨q.val, q.isLt, rfl⟩, hp⟩

theorem interrupt_iff (s : State) :
    s.interrupt = true ↔
      s.irqEnable = true ∧
        ((∃ q : EqId, (s.eq q).flag = true) ∨ (∃ q : EqId, (s.eq q).fault = true) ∨ s.adminFault = true ∨
          s.submitError = true ∨ s.ackError = true) := by
  unfold State.interrupt
  simp only [Bool.and_eq_true, Bool.or_eq_true, any_eqs_iff, exists_or, or_assoc]

theorem interrupt_of_disabled {s : State} (h : s.irqEnable = false) : s.interrupt = false := by
  unfold State.interrupt
  rw [h, Bool.false_and]

/-! ## Stop and reset -/

/-- Waiting for the bus port's last transaction, or reaching OFF at once, leaves the interrupt enable alone (R170). -/
@[simp] theorem settleStopping_irqEnable (s : State) : (settleStopping s).irqEnable = s.irqEnable := by
  unfold settleStopping
  split <;> rfl

@[simp] theorem settleStopping_flag (s : State) (q : EqId) : ((settleStopping s).eq q).flag = (s.eq q).flag := by
  unfold settleStopping
  split
  · rfl
  · simp [reachOff]

/-- An engine that has not reached OFF is as it was (R170). -/
theorem settleStopping_of_not_off {s : State} (h : (settleStopping s).engine ≠ .off) : settleStopping s = s := by
  unfold settleStopping at h ⊢
  split
  · rfl
  · rename_i hnone
    rw [if_neg hnone] at h
    exact absurd rfl h

@[simp] theorem stopBlocks_eq (s : State) (q : EqId) : (stopBlocks s).eq q = (s.eq q).stopped := by
  simp [stopBlocks]

@[simp] theorem resetEngine_irqEnable (s : State) : (resetEngine s).irqEnable = false :=
  settleStopping_irqEnable (resetBlocks s)

/-- Settles O14: the sources by `interrupt_iff`; both resets disable the interrupt, and an engine stop leaves the enable,
drops the flags, and keeps the faults until OFF. -/
theorem interruptFollowsItsSources : Obligations.InterruptFollowsItsSources := by
  intro s
  refine ⟨interrupt_iff s, ?_, ?_, settleStopping_irqEnable (stopBlocks s), fun q => ?_, fun hstop => ?_⟩
  · rintro t ⟨⟩
    exact interrupt_of_disabled rfl
  · rintro word t hbit ⟨⟩
    rw [writeControl_reset hbit]
    exact interrupt_of_disabled (resetEngine_irqEnable s)
  · unfold stopEngine
    rw [settleStopping_flag, stopBlocks_eq]
    rfl
  · unfold stopEngine at hstop ⊢
    rw [settleStopping_of_not_off hstop]
    exact ⟨rfl, fun q => by rw [stopBlocks_eq]; rfl⟩

end Sys2Proof.Machine
end

section
/-! Moderation of the request flags (R128 to R131, R133): what a write's end, an acknowledgment and the holdoff timer's
end do to an event queue. -/

namespace Sys2Proof.Machine

/-! ## The end of a write -/

/-- A queue with one entry more: the tail moves on, and where it wraps the phase inverts (R125 (1), (2)). -/
def EventQueue.moved (q : EventQueue) : EventQueue :=
  { q with tail := if q.tail + 1 = q.size then 0 else q.tail + 1,
           phase := if q.tail + 1 = q.size then !q.phase else q.phase, unread := q.unread + 1 }

theorem written_eq_moved (q : EventQueue) (now : Moment) : q.written now = moderateWrite q.moved now := by
  unfold EventQueue.written EventQueue.moved
  simp only [beq_iff_eq]

theorem moderateWrite_off {q : EventQueue} (h : q.mode = .off) (now : Moment) : moderateWrite q now = q := by
  unfold moderateWrite
  rw [h]

/-- In COUNT and LATCHED a queue that took an entry sets the flag at threshold and otherwise starts the timer, unless the
flag is set or the timer runs (R128, R129). -/
theorem moderateWrite_on {q : EventQueue} (h : q.mode ≠ .off) (now : Moment) :
    moderateWrite q now =
      if q.threshold ≤ q.unread then { q with flag := true, holdoffDue := none }
      else if q.flag = true ∨ q.holdoffDue ≠ none then q
      else { q with holdoffDue := startHoldoff q now } := by
  unfold moderateWrite
  split
  · rename_i hoff
    exact absurd hoff h
  all_goals
    by_cases hflag : q.flag = true
    · simp [hflag]
    · cases hdue : q.holdoffDue <;> simp [hflag]

theorem written_off {q : EventQueue} (h : q.mode = .off) (now : Moment) : q.written now = q.moved :=
  (written_eq_moved q now).trans (moderateWrite_off (q := q.moved) h now)

theorem written_on {q : EventQueue} (h : q.mode ≠ .off) (now : Moment) :
    q.written now =
      if q.threshold ≤ q.unread + 1 then { q.moved with flag := true, holdoffDue := none }
      else if q.flag = true ∨ q.holdoffDue ≠ none then q.moved
      else { q.moved with holdoffDue := startHoldoff q now } :=
  (written_eq_moved q now).trans (moderateWrite_on (q := q.moved) h now)

/-! ## Acknowledgments -/

/-- The timer starts afresh on a RUNNING queue that holds entries (R130, R131, R133). -/
theorem restartHoldoff_eq_ite (q : EventQueue) (now : Moment) :
    restartHoldoff q now =
      { q with holdoffDue := if q.state = .running ∧ 1 ≤ q.unread then startHoldoff q now else q.holdoffDue } := by
  unfold restartHoldoff
  split
  · rename_i hrunning
    by_cases hempty : q.unread = 0
    · rw [if_pos hempty, if_neg fun hall => by omega]
    · rw [if_neg hempty, if_pos ⟨hrunning, Nat.one_le_iff_ne_zero.mpr hempty⟩]
  all_goals rename_i hstate; rw [if_neg fun hall => by simp [hstate] at hall]

/-- A queue whose flag an acknowledgment clears (R130, R131). -/
def EventQueue.flagCleared (q : EventQueue) (now : Moment) : EventQueue :=
  restartHoldoff { cancelEmptyHoldoff q with flag := false } now

theorem moderateAck_off {q : EventQueue} (h : q.mode = .off) (notice : Bool) (now : Moment) :
    moderateAck q notice now = q := by
  unfold moderateAck
  rw [h]

/-- The cancelled timer changes nothing that decides on the flag. -/
theorem cancelEmptyHoldoff_decides (q : EventQueue) :
    (cancelEmptyHoldoff q).flag = q.flag ∧ (cancelEmptyHoldoff q).unread = q.unread ∧
      (cancelEmptyHoldoff q).threshold = q.threshold := by
  obtain ⟨d, h⟩ := cancelEmptyHoldoff_eq q
  rw [h]
  exact ⟨rfl, rfl, rfl⟩

/-- In COUNT an acknowledgment clears the flag below threshold (R130). -/
theorem moderateAck_count {q : EventQueue} (h : q.mode = .count) (notice : Bool) (now : Moment) :
    moderateAck q notice now =
      if q.flag = true ∧ q.unread < q.threshold then q.flagCleared now else cancelEmptyHoldoff q := by
  obtain ⟨hflag, hunread, hthreshold⟩ := cancelEmptyHoldoff_decides q
  unfold moderateAck
  rw [h]
  exact ite_congr (by rw [hflag, hunread, hthreshold]) (fun _ => rfl) fun _ => rfl

/-- In LATCHED it does so with clear-notice alone (R131). -/
theorem moderateAck_latched {q : EventQueue} (h : q.mode = .latched) (notice : Bool) (now : Moment) :
    moderateAck q notice now =
      if notice = true ∧ q.flag = true ∧ q.unread < q.threshold then q.flagCleared now else cancelEmptyHoldoff q := by
  obtain ⟨hflag, hunread, hthreshold⟩ := cancelEmptyHoldoff_decides q
  have hfull : (cancelEmptyHoldoff q).threshold ≤ (cancelEmptyHoldoff q).unread ↔ ¬ q.unread < q.threshold := by
    rw [hunread, hthreshold, Nat.not_lt]
  unfold moderateAck
  rw [h]
  dsimp only
  by_cases hbelow : q.unread < q.threshold
  · rw [if_neg fun h => hfull.mp h hbelow]
    exact ite_congr (by simp only [hflag, hbelow, and_true]) (fun _ => rfl) fun _ => rfl
  · rw [if_pos (hfull.mpr hbelow), ite_self, if_neg fun hall => hbelow hall.2.2]

/-! ## The timer's end -/

theorem moderateHoldoff_eq_ite (q : EventQueue) :
    moderateHoldoff q = { q with holdoffDue := none, flag := if 1 ≤ q.unread then true else q.flag } := by
  unfold moderateHoldoff
  by_cases h : 1 ≤ q.unread <;> simp [h]

theorem exec_holdoffExpiry {q : EqId} {due : Moment} {s : State} (h : (s.eq q).holdoffDue = some due) :
    exec (.holdoffExpiry q) s =
      .next (if due ≤ s.clock then s.setEq q (moderateHoldoff (s.eq q)) else s) := by
  show execHoldoffExpiry q s = _
  unfold execHoldoffExpiry
  rw [h]
  simp only [expired_some]

/-- Settles O52: a write's end by `written_on`, an acknowledgment by the mode (`moderateAck_count`,
`moderateAck_latched`), and the timer before and at its moment. -/
theorem moderationRules : Obligations.ModerationRules := by
  intro e notice now fresh moved kept cleared
  have hkept : cancelEmptyHoldoff e = kept := rfl
  have hcleared : e.flagCleared now = cleared := by
    obtain ⟨d, hcancel⟩ := cancelEmptyHoldoff_eq e
    unfold EventQueue.flagCleared
    rw [restartHoldoff_eq_ite]
    simp only [cleared, ← hkept, hcancel]
    rfl
  refine ⟨fun hoff => ?_, fun hon => ?_, ?_, ?_, ?_, ?_, fun q due s htimer => ?_⟩
  · exact ⟨written_off hoff now, moderateAck_off hoff notice now⟩
  · rw [written_on hon]
    refine ⟨fun hfull => ?_, fun hbelow hset => ?_, fun hbelow hflag htimer => ?_⟩
    · exact if_pos hfull
    · rw [if_neg (Nat.not_le.mpr hbelow)]
      exact if_pos hset
    · rw [if_neg (Nat.not_le.mpr hbelow)]
      exact if_neg (by simp [hflag, htimer])
  · rintro ⟨hcount, hclears⟩
    rw [moderateAck_count hcount, if_pos hclears, hcleared]
  · rintro ⟨hcount, hleaves⟩
    rw [moderateAck_count hcount, if_neg hleaves, hkept]
  · rintro ⟨hlatched, hclears⟩
    rw [moderateAck_latched hlatched, if_pos hclears, hcleared]
  · rintro ⟨hlatched, hleaves⟩
    rw [moderateAck_latched hlatched, if_neg hleaves, hkept]
  · rw [exec_holdoffExpiry htimer]
    refine ⟨fun hearly => ?_, fun hdue => ?_⟩
    · rw [if_neg (Nat.not_le.mpr hearly)]
    · rw [if_pos hdue, moderateHoldoff_eq_ite]

end Sys2Proof.Machine
end

section
/-! Acknowledgments of event queue entries (R127, R166): how many entries a new head takes, and the fields of the word
that carries it. -/

namespace Sys2Proof.Machine

/-! ## The entries a new head acknowledges -/

theorem EventQueue.acknowledges_absent {q : EventQueue} (h : q.state = .absent) (newHead : Nat) :
    q.acknowledges newHead = none := by
  unfold EventQueue.acknowledges
  simp [h]

/-- The entries from the present head to a new one, counted on the ring from the tail back (R121, R127). -/
theorem EventQueue.distance_eq {q : EventQueue} (h : q.kept) (hpresent : q.state ≠ .absent) {newHead : Nat}
    (hin : newHead < q.size) :
    (newHead + q.size - q.head) % q.size = (newHead + q.size + q.unread - q.tail) % q.size := by
  obtain ⟨hunread, hring⟩ := h
  obtain ⟨htail, -⟩ := hring hpresent
  have hhead : q.head = if q.unread ≤ q.tail then q.tail - q.unread else q.tail + q.size - q.unread := by
    unfold EventQueue.head
    split
    · rw [show q.tail + q.size - q.unread = q.tail - q.unread + q.size by omega, Nat.add_mod_right,
        Nat.mod_eq_of_lt (by omega)]
    · exact Nat.mod_eq_of_lt (by omega)
  rw [hhead]
  split
  · congr 1
    omega
  · rw [show newHead + q.size + q.unread - q.tail = newHead + q.size - (q.tail + q.size - q.unread) + q.size by omega,
      Nat.add_mod_right]

/-- A present queue takes a new head inside it whose distance is at most unread (R127). -/
theorem EventQueue.acknowledges_present {q : EventQueue} (h : q.kept) (hpresent : q.state ≠ .absent) (newHead : Nat) :
    q.acknowledges newHead =
      if newHead < q.size ∧ (newHead + q.size + q.unread - q.tail) % q.size ≤ q.unread then
        some ((newHead + q.size + q.unread - q.tail) % q.size)
      else none := by
  have hstate : (q.state == .running || q.state == .faulted) = true := by
    cases hs : q.state
    · exact absurd hs hpresent
    all_goals rfl
  unfold EventQueue.acknowledges
  by_cases hin : newHead < q.size
  · simp [hstate, hin, q.distance_eq h hpresent hin]
  · simp [hin]

/-! ## The word -/

/-- The queue id and the new head that an EVENT_ACK word carries (R166). -/
theorem ackFields (word : Word) :
    (word.extractLsb' 0 3).toNat = word.toNat % 8 ∧ (word.extractLsb' 16 10).toNat = word.toNat / 65536 % 1024 := by
  simp [BitVec.extractLsb'_toNat, Nat.shiftRight_eq_div_pow]

/-- Clear-notice is the word's top bit (R166). -/
theorem clearNotice_eq (word : Word) : word.getLsbD 31 = decide (2 ^ 31 ≤ word.toNat) :=
  (BitVec.msb_eq_getLsbD_last word).symm.trans (BitVec.msb_eq_decide word)

theorem acknowledge_of_no_queue {word : Word} (h : 4 ≤ word.toNat % 8) (s : State) :
    acknowledge word s = { s with ackError := true } := by
  unfold acknowledge
  rw [dif_neg (by rw [(ackFields word).1]; omega)]

section
variable {word : Word} {q : EqId} {s : State}

/-- What an EVENT_ACK does is decided by the queue it names (R127). -/
theorem acknowledge_of_queue (h : word.toNat % 8 = q.val) :
    acknowledge word s =
      (((s.eq q).acknowledges (word.toNat / 65536 % 1024)).map fun d =>
        chooseEvent
          (s.setEq q
            (moderateAck { s.eq q with unread := (s.eq q).unread - d } (decide (2 ^ 31 ≤ word.toNat))
              s.clock))).getD { s with ackError := true } := by
  obtain ⟨hid, hhead⟩ := ackFields word
  have hlt : (word.extractLsb' 0 3).toNat < 4 := by have := q.isLt; omega
  have hq : (⟨(word.extractLsb' 0 3).toNat, hlt⟩ : EqId) = q := Fin.ext (hid.trans h)
  unfold acknowledge
  dsimp only
  rw [dif_pos hlt, hq, hhead, clearNotice_eq]
  cases (s.eq q).acknowledges (word.toNat / 65536 % 1024) <;> rfl

theorem acknowledge_refused (h : word.toNat % 8 = q.val)
    (hnone : (s.eq q).acknowledges (word.toNat / 65536 % 1024) = none) :
    acknowledge word s = { s with ackError := true } := by
  rw [acknowledge_of_queue h, hnone]
  rfl

end

/-- Settles O11: no such queue, an absent one, or the distance of the new head (`EventQueue.acknowledges_present`). -/
theorem eventAckJudged : Obligations.EventAckJudged := by
  intro word s id newHead refused
  refine ⟨rfl, fun hnone => congrArg Host.Outcome.next (acknowledge_of_no_queue hnone s), ?_⟩
  intro q hid e d
  refine ⟨fun habsent => ?_, fun hpresent hkept => ⟨fun htaken => ?_, fun hnot => ?_⟩⟩
  · exact congrArg Host.Outcome.next (acknowledge_refused hid (EventQueue.acknowledges_absent habsent newHead))
  · refine congrArg Host.Outcome.next ((acknowledge_of_queue hid).trans ?_)
    rw [EventQueue.acknowledges_present hkept hpresent, if_pos htaken]
    rfl
  · refine congrArg Host.Outcome.next (acknowledge_refused hid ?_)
    rw [EventQueue.acknowledges_present hkept hpresent, if_neg hnot]

end Sys2Proof.Machine
end

section
/-! The event writer's choice (R124 to R126): what each writer offers, and the first writer served in ring order. -/

namespace Sys2Proof.Machine

/-! ## Offers -/

theorem offer_commandUnit_iff {s : State} {q : EqId} :
    s.offer .commandUnit = some q ↔ q = 0 ∧ ∃ done, s.admin.state = .posting done := by
  unfold State.offer
  cases hs : s.admin.state <;> simp [eq_comm]

theorem offer_sequencer_iff {s : State} {l : Lane} {q : EqId} :
    s.offer (.sequencer l) = some q ↔ ∃ c, (s.lane l).seq.completion = some c ∧ c.target = q :=
  Option.map_eq_some_iff

theorem offer_outbox_iff {s : State} {l : Lane} {q : EqId} :
    s.offer (.outbox l) = some q ↔ ∃ ev rest, (s.lane l).outbox.events = ev :: rest ∧ ev.target = q := by
  show (s.lane l).outbox.events.head?.map RxEvent.target = some q ↔ _
  cases (s.lane l).outbox.events <;> simp

/-! ## The first in ring order -/

theorem findSome?_of_first {α β : Type} {f : α → Option β} {xs : List α} {k : Nat} {x : α} {y : β}
    (hx : xs[k]? = some x) (hy : f x = some y) (hfirst : ∀ n < k, ∀ z, xs[n]? = some z → f z = none) :
    xs.findSome? f = some y := by
  induction xs generalizing k with
  | nil => cases hx
  | cons z zs ih =>
    cases k with
    | zero =>
      cases hx
      rw [List.findSome?_cons, hy]
    | succ k =>
      rw [List.findSome?_cons, hfirst 0 k.succ_pos z rfl]
      exact ih hx fun n hn => hfirst (n + 1) (Nat.succ_lt_succ hn)

/-- The writer `n` places after the pointer, counted round the ring. -/
theorem rotatedRing_getElem? {p : Fin 9} {n : Nat} (h : n < 9) :
    (writerRing.drop p.val ++ writerRing.take p.val)[n]? = writerRing[(p + ⟨n, h⟩ : Fin 9).val]? := by
  have hp := p.isLt
  have hlength : (writerRing.drop p.val).length = 9 - p.val := List.length_drop
  rw [Fin.val_add]
  by_cases hbefore : p.val + n < 9
  · rw [List.getElem?_append_left (by omega), List.getElem?_drop, Nat.mod_eq_of_lt hbefore]
  · have hround : (p.val + n) % 9 = n - (9 - p.val) := by omega
    rw [List.getElem?_append_right (by omega), hlength, List.getElem?_take_of_lt (by omega), hround]

/-- A place is as far from the pointer as it stands after it, round the ring. -/
theorem pointer_add_distance (p i : Fin 9) : p + (i - p) = i := by
  revert p i
  decide

theorem distance_of_pointer_add (p k : Fin 9) : p + k - p = k := by
  revert p k
  decide

/-- The writer served next is the one whose offer a queue can take, when no writer from the pointer to it has such an
offer. -/
theorem nextServed_of_first {s : State} {i : Fin 9} {w : Writer} {q : EqId} (hw : writerRing[i.val]? = some w)
    (hserved : s.servable w = some q)
    (hfirst : ∀ (j : Fin 9) (v : Writer), (j - s.writer.pointer).val < (i - s.writer.pointer).val →
      writerRing[j.val]? = some v → s.servable v = none) : s.nextServed = some (w, q) := by
  refine findSome?_of_first (k := (i - s.writer.pointer).val) (x := w) ?_ (by rw [hserved]; rfl) fun n hn v hv => ?_
  · rw [rotatedRing_getElem? (i - s.writer.pointer).isLt]
    rwa [pointer_add_distance]
  · have hlt : n < 9 := Nat.lt_trans hn (i - s.writer.pointer).isLt
    rw [rotatedRing_getElem? hlt] at hv
    rw [hfirst _ v (by rwa [distance_of_pointer_add]) hv]
    rfl

theorem nextServed_none {s : State} (h : ∀ w, s.servable w = none) : s.nextServed = none := by
  unfold State.nextServed
  simp [h]

/-! ## The choice -/

theorem chooseEvent_of_not_running {s : State} (h : s.engine ≠ .running) : chooseEvent s = s := by
  rcases chooseEvent_cases s with ⟨w, q, hrun, -⟩ | hsame
  · exact absurd hrun h
  · exact hsame

theorem chooseEvent_of_inFlight {s : State} (h : s.writer.inFlight ≠ none) : chooseEvent s = s := by
  rcases chooseEvent_cases s with ⟨w, q, -, hidle, -⟩ | hsame
  · exact absurd hidle h
  · exact hsame

theorem chooseEvent_of_none {s : State} (h : s.nextServed = none) : chooseEvent s = s := by
  rcases chooseEvent_cases s with ⟨w, q, -, -, hnext, -⟩ | hsame
  · rw [h] at hnext; cases hnext
  · exact hsame

/-- The writer served next has its event sent as one write (R125). -/
theorem chooseEvent_of_next {s : State} {w : Writer} {q : EqId} (hrun : s.engine = .running)
    (hidle : s.writer.inFlight = none) (hnext : s.nextServed = some (w, q)) (hbus : s.busSlot .eventWriter = .idle) :
    chooseEvent s =
      { s with writer := { s.writer with inFlight := some (w, q) } }.setBus .eventWriter
        (.pending (eventWrite s w q)) := by
  unfold chooseEvent
  split
  · rw [hnext]
    exact askBus_of_idle (s := { s with writer := { s.writer with inFlight := some (w, q) } }) hbus _
  · rename_i hother
    exact absurd hidle (hother hrun)

/-- Settles O50: the manual's condition on a writer is `servable`, and the choice is by `nextServed_of_first`. -/
theorem eventChoiceIsRoundRobin : Obligations.EventChoiceIsRoundRobin := by
  intro s ring offers served
  have hoffer (w : Writer) (q : EqId) : s.offer w = some q ↔ offers w q := by
    cases w with
    | commandUnit => exact offer_commandUnit_iff
    | sequencer l => exact offer_sequencer_iff
    | outbox l => exact offer_outbox_iff
  have hserved (w : Writer) (q : EqId) : s.servable w = some q ↔ served w q := by
    rw [servable_eq_some, canTake_iff, hoffer]
  have hnone (w : Writer) (h : ∀ q, ¬ served w q) : s.servable w = none :=
    Option.eq_none_iff_forall_ne_some.mpr fun q hq => h q ((hserved w q).mp hq)
  refine ⟨?_, fun i w q hrun hidle hw hs hfirst hbus => ?_⟩
  · rintro (hrun | hflight | hall)
    · exact chooseEvent_of_not_running hrun
    · exact chooseEvent_of_inFlight hflight
    · exact chooseEvent_of_none (nextServed_none fun w => hnone w (hall w))
  · exact chooseEvent_of_next hrun hidle
      (nextServed_of_first hw ((hserved w q).mpr hs) fun j v hj hv => hnone v (hfirst j v hj hv)) hbus

end Sys2Proof.Machine
end

section
/-! The end of an event write (R125, R135): the event leaves its writer, which goes on (R64, R85, R99, R140, R153 to
R155), or the queue is FAULTED. -/

namespace Sys2Proof.Machine

open Sys2Proof.Claims

/-! ## The event writer's part -/

/-- The state once the write in flight is over: its place at the bus port free, the queue as given, and the pointer past
the writer served (R124). -/
def State.writeEnded (s : State) (w : Writer) (q : EqId) (e : EventQueue) : State :=
  writeOver w ((s.setBus .eventWriter .idle).setEq q e)

/-- What the writer of an event whose write failed makes of it: only one kept at a RESET_LANE goes (R135 (3), R155). -/
def writerFailed : Writer → State → State
  | .commandUnit, s => s
  | .sequencer _, s => s
  | .outbox l, s => dropSettling l s

theorem writerFailed_commandUnit (s : State) : writerFailed .commandUnit s = s := rfl

theorem writerFailed_sequencer (l : Lane) (s : State) : writerFailed (.sequencer l) s = s := rfl

section
variable {s : State} {w : Writer} {q : EqId}

theorem exec_eventWriteEnd (h : Outstanding s .eventWriter .event) (hflight : s.writer.inFlight = some (w, q)) :
    exec .eventWriteEnd s =
      .next (chooseEvent (writerServed w (s.writeEnded w q ((s.eq q).written s.clock)))) := by
  obtain ⟨hrun, t, hbus, hpurpose⟩ := h
  show Host.Outcome.next (eventWritten s) = _
  unfold eventWritten
  rw [endTransaction_running hrun hbus (by simp [hpurpose]), State.setBus_writer, hflight]
  rfl

theorem exec_eventWriteError (h : Outstanding s .eventWriter .event) (hflight : s.writer.inFlight = some (w, q)) :
    exec .eventWriteError s = .next (chooseEvent (writerFailed w (s.writeEnded w q (s.eq q).failed))) := by
  obtain ⟨hrun, t, hbus, hpurpose⟩ := h
  show Host.Outcome.next (eventFailed s) = _
  unfold eventFailed
  rw [endTransaction_running hrun hbus (by simp [hpurpose]), State.setBus_writer, hflight]
  cases w <;> rfl

end

/-! ## The command unit's part -/

/-- An IDLE command unit reads its next entry when there is one (R140). -/
theorem adminFetchCheck_of_idle {s : State} {q : AdminQueue} (hstate : s.admin.state = .idle)
    (hqueue : s.admin.queue = some q) :
    adminFetchCheck s =
      if q.head = q.tail then s else asked .commandUnit (adminAtHead q) (setAdmin .fetch s) := by
  unfold adminFetchCheck
  rw [hstate, hqueue, asked_eq_askBus]
  rfl

/-! ## The sequencer's part -/

/-- A lane whose request is over, its sequencer in the state given and with the abort work given (R99). -/
def requestOver (l : Lane) (state : SeqState) (abort : Option AbortWork) (s : State) : State :=
  s.setLane l
    { s.lane l with
      seq := { (s.lane l).seq with state := state, active := none, completion := none, abort := abort } }

/-- A lane whose request is over asks for its next entry (R85). -/
def readsNext (l : Lane) (abort : Option AbortWork) (s : State) : State :=
  asked (.sequencer l) (entryAtHead (s.lane l).queue) (requestOver l .fetch abort s)

/-- An entry waits in the lane's request queue and may be read (R85). -/
def LaneState.EntryWaits (x : LaneState) : Prop :=
  x.queue.state = .running ∧ x.queue.head ≠ x.queue.tail ∧ x.settings.mode ≠ .disabled

theorem mayFetch_iff {x : LaneState} : x.mayFetch = true ↔ x.seq.state = .idle ∧ x.EntryWaits := by
  simp [LaneState.mayFetch, LaneState.EntryWaits, and_assoc]

section
variable {l : Lane} {s : State}

theorem beginFetch_requestOver (state : SeqState) (abort : Option AbortWork) :
    beginFetch l (requestOver l state abort s) = readsNext l abort s := by
  unfold beginFetch readsNext requestOver
  rw [asked_eq_askBus]
  simp [State.modSeq_def, entryRead, entryAtHead]

theorem fetchCheck_of_waiting (h : (s.lane l).EntryWaits) (abort : Option AbortWork) :
    fetchCheck l (requestOver l .idle abort s) = readsNext l abort s := by
  have hmay : ((requestOver l .idle abort s).lane l).mayFetch = true := by
    rw [mayFetch_iff, requestOver, State.setLane_lane_self]
    exact ⟨rfl, h⟩
  unfold fetchCheck
  rw [if_pos hmay, beginFetch_requestOver]

/-- A lane without an entry that waits reads none. -/
theorem fetchCheck_of_not_waiting (h : ¬ (s.lane l).EntryWaits) : fetchCheck l s = s := by
  unfold fetchCheck
  rw [if_neg fun hmay => h (mayFetch_iff.mp hmay).2]

theorem fetchCheck_of_none_waiting (h : ¬ (s.lane l).EntryWaits) (abort : Option AbortWork) :
    fetchCheck l (requestOver l .idle abort s) = requestOver l .idle abort s := by
  refine fetchCheck_of_not_waiting ?_
  rw [requestOver, State.setLane_lane_self]
  exact h

/-! ### An abort's report -/

theorem askBus_answered (b : BusClient) (t : Transaction) (c : Code) (tag : Half) (p : Byte) (d : Nat) :
    askBus b t (answered s c tag p d) = answered (askBus b t s) c tag p d := by
  by_cases h : s.busSlot b = .idle
  · rw [askBus_of_idle h, askBus_of_idle (s := answered s c tag p d) h]
    rfl
  · rw [askBus_of_not_idle h, askBus_of_not_idle (s := answered s c tag p d) h]

/-- An ADMIN_DONE made before or after the check for the next entry is the same (R142). -/
theorem fetchCheck_answered (c : Code) (tag : Half) (p : Byte) (d : Nat) :
    fetchCheck l (answered s c tag p d) = answered (fetchCheck l s) c tag p d := by
  have hbegin : beginFetch l (answered s c tag p d) = answered (beginFetch l s) c tag p d :=
    askBus_answered (s := s.modSeq l fun q => { q with state := .fetch }) ..
  unfold fetchCheck
  rw [hbegin]
  exact (apply_ite (answered · c tag p d) _ _ _).symm

/-- A reset lane is disabled, so it reads no entry (R154). -/
theorem fetchCheck_resetLane : fetchCheck l (resetLane l s) = resetLane l s := by
  refine fetchCheck_of_not_waiting fun ⟨_, _, hmode⟩ => hmode ?_
  simp [resetLane, LaneState.afterReset]
  rfl

theorem reportAbort_requestOver {tag : Half} {l' : Lane} {reset : Bool}
    (h : s.admin.state = .executing tag (.laneAbort l' reset)) (state : SeqState) (abort : Option AbortWork) (n : Nat) :
    reportAbort l n (requestOver l state abort s) =
      answered (if reset then resetLane l (requestOver l state none s) else requestOver l state none s) .ok tag 0 n := by
  have hover : (requestOver l state abort s).modSeq l (fun q => { q with abort := none }) =
      requestOver l state none s := by
    simp [requestOver, State.modSeq_def]
  have hadmin : (requestOver l state none s).admin.state = .executing tag (.laneAbort l' reset) := h
  unfold reportAbort
  dsimp only
  rw [hover, hadmin]
  rfl

/-! ### The completion written -/

theorem completionWritten_of_no_abort (h : (s.lane l).seq.abort = none) :
    completionWritten l s = fetchCheck l (requestOver l .idle none s) := by
  unfold completionWritten requestOver
  simp [State.modSeq_def, h]

/-- A flush with entries left takes the next (R100). -/
theorem completionWritten_of_flush {a : AbortWork} (h : (s.lane l).seq.abort = some a) (hleft : a.remaining ≠ 0) :
    completionWritten l s = readsNext l (some a) s := by
  rw [← beginFetch_requestOver .idle]
  unfold completionWritten requestOver
  simp [State.modSeq_def, h, hleft]

theorem completionWritten_of_last {a : AbortWork} (h : (s.lane l).seq.abort = some a) (hlast : a.remaining = 0) :
    completionWritten l s = fetchCheck l (reportAbort l a.aborted (requestOver l .idle (some a) s)) := by
  unfold completionWritten requestOver
  simp [State.modSeq_def, h, hlast]

/-- The last completion of an ABORT_LANE is reported, and the sequencer goes on (R153). -/
theorem completionWritten_of_abort {a : AbortWork} {tag : Half} {l' : Lane} (h : (s.lane l).seq.abort = some a)
    (hlast : a.remaining = 0) (hcommand : s.admin.state = .executing tag (.laneAbort l' false)) :
    completionWritten l s = answered (fetchCheck l (requestOver l .idle none s)) .ok tag 0 a.aborted := by
  rw [completionWritten_of_last h hlast, reportAbort_requestOver hcommand, fetchCheck_answered]
  rfl

/-- The last completion of a RESET_LANE is reported, and the lane is reset (R154). -/
theorem completionWritten_of_reset {a : AbortWork} {tag : Half} {l' : Lane} (h : (s.lane l).seq.abort = some a)
    (hlast : a.remaining = 0) (hcommand : s.admin.state = .executing tag (.laneAbort l' true)) :
    completionWritten l s = answered (resetLane l (requestOver l .idle none s)) .ok tag 0 a.aborted := by
  rw [completionWritten_of_last h hlast, reportAbort_requestOver hcommand, fetchCheck_answered, if_pos rfl,
    fetchCheck_resetLane]

end

/-! ## The outbox's part -/

theorem releaseHeld_capture {ev : RxEvent} (h : ev.kind = .capture) (s : State) :
    releaseHeld ev s = { s with heldCount := s.heldCount - 1 } := by
  unfold releaseHeld
  rw [h]

theorem releaseHeld_other {ev : RxEvent} (h : ev.kind ≠ .capture) (s : State) : releaseHeld ev s = s := by
  unfold releaseHeld
  split
  · rename_i hcapture
    exact absurd hcapture h
  · rfl
  · rfl

section
variable {l : Lane} {s : State} {ev : RxEvent} {rest : List RxEvent}

/-- Without an event kept at a RESET_LANE the oldest leaves (R64). -/
theorem leaveOutbox_first (hsettling : (s.lane l).outbox.settling = none)
    (hevents : (s.lane l).outbox.events = ev :: rest) :
    leaveOutbox l s =
      releaseHeld ev (s.setLane l { s.lane l with outbox := { (s.lane l).outbox with events := rest } }) := by
  unfold leaveOutbox
  dsimp only
  simp only [hsettling, hevents]
  rw [← hsettling]
  rfl

/-- The outbox without the event it kept at a RESET_LANE (R155). -/
def settled (l : Lane) (s : State) : State :=
  s.setLane l { s.lane l with outbox := { (s.lane l).outbox with settling := none } }

theorem leaveOutbox_settling (h : (s.lane l).outbox.settling = some ev) :
    leaveOutbox l s = releaseHeld ev (settled l s) := by
  unfold leaveOutbox
  simp only [h]
  rfl

theorem dropSettling_of_none (h : (s.lane l).outbox.settling = none) : dropSettling l s = s := by
  unfold dropSettling
  simp only [h]

theorem dropSettling_capture (h : (s.lane l).outbox.settling = some ev) (hkind : ev.kind = .capture) :
    dropSettling l s = { settled l s with captureList := s.captureList ++ [ev.aux] } := by
  unfold dropSettling
  simp only [h, hkind]
  rfl

theorem dropSettling_other (h : (s.lane l).outbox.settling = some ev) (hkind : ev.kind ≠ .capture) :
    dropSettling l s = settled l s := by
  unfold dropSettling
  simp only [h]
  split
  · rename_i hcapture
    exact absurd hcapture hkind
  · rfl
  · rfl

end

theorem writerIndex_sequencer (l : Lane) : writerIndex (.sequencer l) + 1 = ⟨l.val + 2, by omega⟩ := by
  revert l
  decide

theorem writerIndex_outbox (l : Lane) : writerIndex (.outbox l) + 1 = ⟨(l.val + 6) % 9, by omega⟩ := by
  revert l
  decide

/-- Settles O51: what each writer makes of its written event (`adminFetchCheck_of_idle`, `completionWritten`,
`leaveOutbox`) and of a failed write (`dropSettling`), on the state with the write over. -/
theorem eventWriteEnds : Obligations.EventWriteEnds := by
  intro s w q hout hflight ended written failed ends errs
  have hends {place : Fin 9} {t : State} (hplace : writerIndex w + 1 = place)
      (h : writerServed w (written place) = t) : ends t := by
    subst hplace h
    exact exec_eventWriteEnd hout hflight
  have herrs {place : Fin 9} {t : State} (hplace : writerIndex w + 1 = place)
      (h : writerFailed w (failed place) = t) : errs t := by
    subst hplace h
    exact exec_eventWriteError hout hflight
  refine ⟨?_, ?_, ?_⟩
  · rintro rfl
    have hplace : writerIndex .commandUnit + 1 = 1 := rfl
    refine ⟨herrs hplace (writerFailed_commandUnit (failed 1)), fun adm hqueue => ?_⟩
    have hnext := adminFetchCheck_of_idle (s := setAdmin .idle (written 1)) rfl hqueue
    exact ⟨fun hempty => hends hplace (hnext.trans (if_pos hempty)),
      fun hmore => hends hplace (hnext.trans (if_neg hmore))⟩
  · rintro l rfl x place finished reads more
    have hplace : writerIndex (.sequencer l) + 1 = place := writerIndex_sequencer l
    have hwritten {t : State} (h : completionWritten l (written place) = t) : ends t := hends hplace h
    have hlane : (written place).lane l = x := rfl
    have hfinished (state : SeqState) (abort : Option AbortWork) :
        requestOver l state abort (written place) = finished state abort := by rw [requestOver, hlane]
    have hreads (abort : Option AbortWork) : readsNext l abort (written place) = reads (finished .fetch abort) := by
      rw [readsNext, hlane, hfinished]
    have hidle (hrest : ¬ more) : fetchCheck l (requestOver l .idle none (written place)) = finished .idle none := by
      rw [fetchCheck_of_none_waiting (s := written place) hrest, hfinished]
    have hnext (hmore : more) :
        fetchCheck l (requestOver l .idle none (written place)) = reads (finished .fetch none) := by
      rw [fetchCheck_of_waiting (s := written place) hmore, hreads]
    refine ⟨herrs hplace (writerFailed_sequencer l (failed place)), fun hnone hrest => hwritten ?_,
      fun hnone hmore => hwritten ?_, fun a habort => ⟨fun hleft => hwritten ?_,
        fun tag l' hlast hcommand => ⟨fun hrest => hwritten ?_, fun hmore => hwritten ?_⟩,
        fun tag l' hlast hcommand => hwritten ?_⟩⟩
    · rw [completionWritten_of_no_abort (s := written place) hnone, hidle hrest]
    · rw [completionWritten_of_no_abort (s := written place) hnone, hnext hmore]
    · rw [completionWritten_of_flush (s := written place) habort hleft, hreads]
    · rw [completionWritten_of_abort (s := written place) habort hlast hcommand, hidle hrest]
    · rw [completionWritten_of_abort (s := written place) habort hlast hcommand, hnext hmore]
    · rw [completionWritten_of_reset (s := written place) habort hlast hcommand, hfinished]
  · rintro l rfl x place
    have hplace : writerIndex (.outbox l) + 1 = place := writerIndex_outbox l
    have hwritten {t : State} (h : leaveOutbox l (written place) = t) : ends t := hends hplace h
    have hfailed {t : State} (h : dropSettling l (failed place) = t) : errs t := herrs hplace h
    have hlane : (written place).lane l = x := rfl
    refine ⟨fun ev rest hnone hevents => ?_, fun ev hkept => ?_⟩
    · intro shorter
      have hleaves : leaveOutbox l (written place) = releaseHeld ev shorter := by
        rw [leaveOutbox_first (s := written place) hnone hevents, hlane]
      refine ⟨hfailed (dropSettling_of_none (s := failed place) hnone), fun hkind => hwritten ?_,
        fun hkind => hwritten ?_⟩
      · rw [hleaves, releaseHeld_other hkind]
      · rw [hleaves, releaseHeld_capture hkind]
        rfl
    · intro gone
      have hgone (t : State) (ht : t.lane l = x) : settled l t = gone t := by
        rw [settled, ht]
      have hleaves : leaveOutbox l (written place) = releaseHeld ev (gone (written place)) := by
        rw [leaveOutbox_settling (s := written place) hkept, hgone (written place) hlane]
      refine ⟨fun hkind => ⟨hwritten ?_, hfailed ?_⟩, fun hkind => ⟨hwritten ?_, hfailed ?_⟩⟩
      · rw [hleaves, releaseHeld_other hkind]
      · rw [dropSettling_other (s := failed place) hkept hkind, hgone (failed place) rfl]
      · rw [hleaves, releaseHeld_capture hkind]
        rfl
      · rw [dropSettling_capture (s := failed place) hkept hkind, hgone (failed place) rfl]
        rfl

end Sys2Proof.Machine
end

section
/-! Taken admin commands (R140, R141, R144): the end of an entry's read, and the refusals that come before any command
acts. -/

namespace Sys2Proof.Machine

open Sys2Proof.Claims

/-! ## The range checks at the taking -/

section
variable {s : State} {q : AdminQueue} {checks : List (Nat × Bool)}

/-- A command whose fields are in range acts on the state with its entry taken (R141). -/
theorem takeChecked_of_pass (h : EntryRead s q) (hpass : firstBad checks = none) (tag : Half) (act : State → State) :
    takeCommand (checked tag checks act) s = chooseEvent (act (taken s q)) := by
  rw [checked_of_pass hpass, takeCommand_of_entryRead h]

/-- The first field out of range ends the command before it acts (R141). -/
theorem takeChecked_of_bad {n : Nat} (h : EntryRead s q) (hbad : firstBad checks = some n) (tag : Half)
    (act : State → State) :
    takeCommand (checked tag checks act) s = chooseEvent (answered (taken s q) .fieldRange tag 0 n) := by
  rw [takeCommand_of_entryRead h]
  simp only [checked, hbad, postDone_eq_answered]

end

theorem knownCommand_eq_false {command : Byte} (h : command.toNat = 0 ∨ 13 ≤ command.toNat) :
    knownCommand command = false := by
  simp only [knownCommand, Bool.and_eq_false_iff, decide_eq_false_iff_not]
  omega

/-- Settles O16: NOP has no field to check, so it answers at its taking. -/
theorem nopAnswersOk : Obligations.NopAnswersOk := by
  intro tag s q hread
  exact congrArg Host.Outcome.next (takeCommand_of_entryRead hread (postDone .ok tag 0 0))

/-- Settles O17: the failed read at the command unit's place, the unknown command by `knownCommand_eq_false`, and the
eleven refusals by `takeChecked_of_bad`. -/
theorem adminEntryReadEnds : Obligations.AdminEntryReadEnds := by
  intro s q tag n hread refused
  have hrefused {checks : List (Nat × Bool)} (hbad : firstBad checks = some n) (act : State → State) :
      .next (takeCommand (checked tag checks act) s) = refused :=
    congrArg Host.Outcome.next (takeChecked_of_bad hread hbad tag act)
  refine ⟨?_, fun command hunknown => ?_, fun a hbad => hrefused hbad _, fun a hbad => hrefused hbad _,
    fun slot address hbad => hrefused hbad _, fun slot hbad => hrefused hbad _, fun a hbad => hrefused hbad _,
    fun a hbad => hrefused hbad _, fun lane scope hbad => hrefused hbad _, fun lane hbad => hrefused hbad _,
    fun lane holdTag hbad => hrefused hbad _, fun address hbad => hrefused hbad _, fun a hbad => hrefused hbad _⟩
  · obtain ⟨hrun, -, t, hbus, hpurpose⟩ := hread
    exact congrArg Host.Outcome.next (endTransaction_running hrun hbus (by simp [hpurpose]))
  · show execUnknownCommand command tag s = _
    unfold execUnknownCommand
    rw [knownCommand_eq_false hunknown, if_neg Bool.false_ne_true, takeCommand_of_entryRead hread,
      postDone_eq_answered]

end Sys2Proof.Machine
end

section
/-! The setting ranges of the fields of commands and request entries (R87, R88, R141, R145 to R149, R152, R156 to R158):
the conditions of the tables against the checks of the model. -/

namespace Sys2Proof.Machine

open Sys2Proof.Claims

/-! ## One field's condition and its check -/

theorem le_iff_within {hi x : Nat} : x ≤ hi ↔ within 0 hi x = true := by simp [within]

/-- A range whose upper end is the field's largest value only asks for its lower end. -/
theorem ge_iff_within {lo hi x : Nat} (h : x ≤ hi) : lo ≤ x ↔ within lo hi x = true := by simp [within, h]

theorem mod_iff_aligned {n : Nat} {address : Word} : address.toNat % n = 0 ↔ aligned n address = true := by
  simp [aligned]

/-- A field that is out of use when another has the value `k` is checked only otherwise. -/
theorem eq_or_iff {x k : Nat} {P : Prop} {b : Bool} (h : P ↔ b = true) : x = k ∨ P ↔ (x == k || b) = true := by
  simp [h]

/-- An armed field is checked only when the armed count reaches it (R149 (1)). -/
theorem armed_iff {k n : Nat} {P : Prop} {b : Bool} (h : P ↔ b = true) :
    (k ≤ n → P) ↔ (decide (n < k) || b) = true := by
  rw [Bool.or_eq_true, decide_eq_true_eq, ← h, ← Nat.not_le, Decidable.imp_iff_not_or]

/-- A queue's size, of which 0 stands for a deletion (R145). -/
theorem eventSize_iff {queue size : Nat} :
    size = 0 ∧ queue ≠ 0 ∨ size ∈ [16, 32, 64, 128, 256, 512, 1024] ↔
      (if size == 0 then queue != 0 else [16, 32, 64, 128, 256, 512, 1024].contains size) = true := by
  by_cases h : size = 0 <;> simp [h]

/-- The two sources of READ_COUNTERS (R158). -/
theorem source_iff {x : Nat} : x = 0 ∨ x = 1 ↔ within 0 1 x = true := by
  rw [← le_iff_within]
  omega

/-- A range of match entries that ends inside the table has at most 64 of them (R158). -/
theorem entryRange_iff {first count : Nat} :
    1 ≤ count ∧ first + count ≤ 64 ↔ (within 1 64 count && decide (first + count ≤ 64)) = true := by
  rw [Bool.and_eq_true, within_iff, decide_eq_true_eq]
  omega

/-- No field is out exactly when every condition holds. -/
theorem firstOut_none_iff {conds : List (Nat × Prop)} {out : Option Nat} (h : FirstOut conds out) :
    out = none ↔ ∀ c ∈ conds, c.2 := by
  induction conds with
  | nil => exact iff_of_true h nofun
  | cons c rest ih =>
    obtain ⟨hin, hout⟩ := h
    rw [List.forall_mem_cons]
    by_cases hc : c.2
    · rw [ih (hin hc), and_iff_right hc]
    · exact iff_of_false (by simp [hout hc]) fun hall => hc hall.1

/-! ## The lists of checks -/

/-- Settles O18: each condition of a table against the check of the same place. -/
theorem fieldRanges : Obligations.FieldRanges := by
  refine ⟨fun a => ?_, fun a => ?_, fun slot address => ?_, fun slot => ?_, fun a => ?_, fun a => ?_,
    fun lane scope => ?_, fun lane => ?_, fun address => ?_, fun a => ?_, fun e => ⟨?_, ?_, ?_, ?_⟩⟩
  · -- SET_EVENT_QUEUE (R145)
    exact firstOut_cons le_iff_within fun _ => firstOut_cons (eq_or_iff mod_iff_aligned) fun _ =>
      firstOut_cons eventSize_iff fun _ => firstOut_cons (eq_or_iff le_iff_within) fun _ =>
      firstOut_cons (eq_or_iff (ge_iff_within (Nat.le_of_lt_succ a.threshold.isLt))) fun _ => rfl
  · -- SET_REQUEST_QUEUE (R146)
    exact firstOut_cons le_iff_within fun _ => firstOut_cons (eq_or_iff mod_iff_aligned) fun _ =>
      firstOut_cons List.contains_iff_mem.symm fun _ => firstOut_cons (eq_or_iff le_iff_within) fun _ => rfl
  · -- LOAD_PROFILE (R147)
    exact firstOut_cons le_iff_within fun _ => firstOut_cons mod_iff_aligned fun _ => rfl
  · -- CLEAR_PROFILE (R147)
    exact firstOut_cons le_iff_within fun _ => rfl
  · -- LOAD_FILTER (R148)
    exact firstOut_cons le_iff_within fun _ => firstOut_cons le_iff_within fun _ =>
      firstOut_cons (eq_or_iff le_iff_within) fun _ => firstOut_cons (eq_or_iff le_iff_within) fun _ =>
      firstOut_cons (eq_or_iff le_iff_within) fun _ => rfl
  · -- SET_LANE (R149)
    exact firstOut_cons le_iff_within fun _ => firstOut_cons le_iff_within fun _ =>
      firstOut_cons le_iff_within fun _ => firstOut_cons le_iff_within fun _ =>
      firstOut_cons le_iff_within fun _ =>
      firstOut_cons (ge_iff_within (Nat.le_of_lt_succ a.settleSilence.isLt)) fun _ =>
      firstOut_cons le_iff_within fun _ => firstOut_cons (armed_iff le_iff_within) fun _ =>
      firstOut_cons (armed_iff le_iff_within) fun _ => firstOut_cons (armed_iff le_iff_within) fun _ =>
      firstOut_cons (armed_iff le_iff_within) fun _ => firstOut_cons le_iff_within fun _ =>
      firstOut_cons le_iff_within fun _ => firstOut_cons le_iff_within fun _ =>
      firstOut_cons le_iff_within fun _ => firstOut_cons le_iff_within fun _ =>
      firstOut_cons within_iff.symm fun _ => firstOut_cons le_iff_within fun _ => rfl
  · -- ABORT_LANE (R152)
    exact firstOut_cons le_iff_within fun _ => firstOut_cons le_iff_within fun _ => rfl
  · -- RESET_LANE and RELEASE (R154, R156)
    exact firstOut_cons le_iff_within fun _ => rfl
  · -- POST_CAPTURE_BUFFER (R157)
    exact firstOut_cons mod_iff_aligned fun _ => rfl
  · -- READ_COUNTERS (R158)
    exact firstOut_cons source_iff fun _ => firstOut_cons (eq_or_iff le_iff_within) fun _ =>
      firstOut_cons (eq_or_iff le_iff_within) fun _ => firstOut_cons (eq_or_iff entryRange_iff) fun _ =>
      firstOut_cons mod_iff_aligned fun _ => firstOut_cons le_iff_within fun _ => rfl
  · -- SEND (R87)
    exact firstOut_cons le_iff_within fun _ => firstOut_cons within_iff.symm fun _ =>
      firstOut_cons le_iff_within fun _ => firstOut_cons le_iff_within fun _ => rfl
  · -- RAW (R87)
    exact firstOut_cons (by simp [within]) fun _ => firstOut_cons le_iff_within fun _ =>
      firstOut_cons mod_iff_aligned fun _ => firstOut_cons within_iff.symm fun _ => rfl
  · -- HOLD (R87)
    exact firstOut_cons le_iff_within fun _ => firstOut_cons within_iff.symm fun _ =>
      firstOut_cons within_iff.symm fun _ => rfl
  · -- EXCHANGE (R87)
    exact firstOut_cons le_iff_within fun _ => firstOut_cons within_iff.symm fun _ =>
      firstOut_cons beq_iff_eq.symm fun _ => firstOut_cons within_iff.symm fun _ =>
      firstOut_cons within_iff.symm fun _ => firstOut_cons le_iff_within fun _ => rfl

end Sys2Proof.Machine
end

section
/-! SET_EVENT_QUEUE and SET_REQUEST_QUEUE (R102, R122, R145, R146): when a queue is free to be claimed, and the queue an
accepted claim leaves. -/

namespace Sys2Proof.Machine

open Sys2Proof.Claims

/-! ## The event queue's claim -/

/-- A claim on the queue is accepted: it is ABSENT or FAULTED, or has nothing unread and no write in flight (R122). -/
def EventQueueFree (s : State) (q : EqId) : Prop :=
  (s.eq q).state = .absent ∨ (s.eq q).state = .faulted ∨
    (s.eq q).unread = 0 ∧ ∀ w, s.writer.inFlight ≠ some (w, q)

/-- The queue that an accepted claim leaves in the place of `e` (R145). -/
def EventQueue.claimed (e : EventQueue) (a : EventQueueArgs) : EventQueue :=
  if a.size.toNat = 0 then { e with state := .absent, unread := 0, flag := false, holdoffDue := none, fault := false }
  else
    { state := .running, base := a.base, size := a.size.toNat, tail := 0, phase := true, unread := 0,
      mode := moderation a.mode, threshold := a.threshold.toNat, holdoff := a.holdoff.toNat, flag := false,
      holdoffDue := none, fault := false }

section
variable {s : State} {q : EqId}

theorem writingTo_eq_false : s.writingTo q = false ↔ ∀ w, s.writer.inFlight ≠ some (w, q) := by
  unfold State.writingTo
  cases s.writer.inFlight with
  | none => simp
  | some write => simp [Prod.ext_iff]

theorem claimEventQueue_of_free (h : EventQueueFree s q) (a : EventQueueArgs) :
    claimEventQueue q a s = some (s.setEq q ((s.eq q).claimed a)) := by
  unfold EventQueueFree at h
  rw [← writingTo_eq_false] at h
  have hclaimed := apply_ite (fun e => some (s.setEq q e)) (a.size.toNat = 0)
  unfold claimEventQueue EventQueue.claimed
  refine (if_pos ?_).trans (hclaimed _ _).symm
  cases hstate : (s.eq q).state with
  | absent => simp
  | faulted => simp
  | running => simpa [hstate] using h

theorem claimEventQueue_of_busy (h : ¬ EventQueueFree s q) (a : EventQueueArgs) : claimEventQueue q a s = none := by
  simp only [EventQueueFree, ← writingTo_eq_false, not_or] at h
  obtain ⟨habsent, hfaulted, hbusy⟩ := h
  unfold claimEventQueue
  refine if_neg ?_
  cases hstate : (s.eq q).state with
  | absent => exact absurd hstate habsent
  | faulted => exact absurd hstate hfaulted
  | running => simpa [hstate] using hbusy

end

theorem exec_setEventQueue {s : State} {adm : AdminQueue} {a : EventQueueArgs} {q : EqId} (h : EntryRead s adm)
    (hpass : firstBad (eventQueueChecks a) = none) (hq : a.queue.toNat = q.val) (tag : Half) :
    exec (.setEventQueue tag a) s =
      .next (chooseEvent (decided tag .queueBusy (claimEventQueue q a (taken s adm)) (taken s adm))) := by
  rw [← toFour_eq hq]
  exact congrArg Host.Outcome.next (takeChecked_of_pass h hpass tag _)

/-- A code that names a moderation mode is in range (R121, R176). -/
theorem moderation_of_getElem {code : Byte} {m : Moderation}
    (h : [Moderation.off, .count, .latched][code.toNat]? = some m) : code.toNat ≤ 2 ∧ moderation code = m := by
  obtain ⟨hlength, hm⟩ := List.getElem?_eq_some_iff.mp h
  have hcode : code.toNat < 3 := hlength
  subst hm
  unfold moderation
  obtain hc | hc | hc : code.toNat = 0 ∨ code.toNat = 1 ∨ code.toNat = 2 := by omega
  all_goals simp [hc]

/-- Settles O19: the claim is accepted exactly for a free queue, and leaves `EventQueue.claimed`. -/
theorem setEventQueueClaimsQueue : Obligations.SetEventQueueClaimsQueue := by
  intro tag a s adm q hread hq t free
  have hqueue : a.queue.toNat ≤ 3 := by have := q.isLt; omega
  obtain ⟨hranges, -⟩ := fieldRanges
  have hpass := firstOut_none_iff (hranges a)
  simp only [List.forall_mem_cons] at hpass
  have haccepted (hin : firstBad (eventQueueChecks a) = none) (hfree : free) :
      exec (.setEventQueue tag a) s = .next (chooseEvent (answered (t.setEq q ((s.eq q).claimed a)) .ok tag 0 0)) := by
    rw [exec_setEventQueue hread hin hq, claimEventQueue_of_free (s := taken s adm) hfree, decided_some]
    rfl
  refine ⟨fun m hmode hsize hbase hthreshold hfree => ?_, fun hsize hdeletable hfree => ?_, fun hin hbusy => ?_⟩
  · obtain ⟨hrange, rfl⟩ := moderation_of_getElem hmode
    have hcreates : a.size.toNat ≠ 0 := fun h => by simp [h] at hsize
    have hin := hpass.mpr ⟨hqueue, .inr hbase, .inr hsize, .inr hrange, .inr hthreshold, nofun⟩
    rw [haccepted hin hfree, EventQueue.claimed, if_neg hcreates]
  · have hin := hpass.mpr ⟨hqueue, .inl hsize, .inl ⟨hsize, hq ▸ hdeletable⟩, .inl hsize, .inl hsize, nofun⟩
    rw [haccepted hin hfree, EventQueue.claimed, if_pos hsize]
  · rw [exec_setEventQueue hread hin hq, claimEventQueue_of_busy (s := taken s adm) hbusy, decided_none]

/-! ## The request queue's claim -/

/-- A claim on the lane's request queue is accepted: the sequencer is IDLE, and the queue is ABSENT or FAULTED or has no
entry waiting (R102). -/
def LaneState.QueueFree (x : LaneState) : Prop :=
  x.seq.state = .idle ∧ (x.queue.state = .absent ∨ x.queue.state = .faulted ∨ x.queue.head = x.queue.tail)

/-- The queue that an accepted claim leaves (R146). -/
def RequestQueue.claimed (a : RequestQueueArgs) : RequestQueue :=
  if a.size.toNat = 0 then RequestQueue.absent
  else
    { state := .running, base := a.base, size := a.size.toNat, head := 0, tail := 0,
      completionQueue := toFour a.completionQueue }

section
variable {s : State} {l : Lane}

theorem claimRequestQueue_of_free (h : (s.lane l).QueueFree) (a : RequestQueueArgs) :
    claimRequestQueue l a s = some (s.setLane l { s.lane l with queue := RequestQueue.claimed a }) := by
  obtain ⟨hidle, hqueue⟩ := h
  unfold claimRequestQueue
  refine if_pos ?_
  cases hstate : (s.lane l).queue.state with
  | absent => simp [hidle]
  | faulted => simp [hidle]
  | running => simpa [hidle, hstate] using hqueue

theorem claimRequestQueue_of_busy (h : ¬ (s.lane l).QueueFree) (a : RequestQueueArgs) :
    claimRequestQueue l a s = none := by
  unfold claimRequestQueue
  refine if_neg fun haccepts => h ?_
  rw [Bool.and_eq_true, beq_iff_eq] at haccepts
  obtain ⟨hidle, hqueue⟩ := haccepts
  refine ⟨hidle, ?_⟩
  cases hstate : (s.lane l).queue.state with
  | absent => exact .inl rfl
  | faulted => exact .inr (.inl rfl)
  | running => exact .inr (.inr (by simpa [hstate] using hqueue))

end

theorem exec_setRequestQueue {s : State} {adm : AdminQueue} {a : RequestQueueArgs} {l : Lane} (h : EntryRead s adm)
    (hpass : firstBad (requestQueueChecks a) = none) (hl : a.lane.toNat = l.val) (tag : Half) :
    exec (.setRequestQueue tag a) s =
      .next (chooseEvent (decided tag .queueBusy (claimRequestQueue l a (taken s adm)) (taken s adm))) := by
  rw [← toFour_eq hl]
  exact congrArg Host.Outcome.next (takeChecked_of_pass h hpass tag _)

/-- Settles O20: the claim is accepted exactly for a free queue, and leaves `RequestQueue.claimed`. -/
theorem setRequestQueueClaimsQueue : Obligations.SetRequestQueueClaimsQueue := by
  intro tag a s adm l cq hread hl t x free
  have hlane : a.lane.toNat ≤ 3 := by have := l.isLt; omega
  obtain ⟨-, hranges, -⟩ := fieldRanges
  have hpass := firstOut_none_iff (hranges a)
  simp only [List.forall_mem_cons] at hpass
  have haccepted (hin : firstBad (requestQueueChecks a) = none) (hfree : free) :
      exec (.setRequestQueue tag a) s =
        .next (chooseEvent (answered (t.setLane l { x with queue := RequestQueue.claimed a }) .ok tag 0 0)) := by
    rw [exec_setRequestQueue hread hin hl, claimRequestQueue_of_free (s := taken s adm) hfree, decided_some]
    rfl
  refine ⟨fun hsize hbase hcq hfree => ?_, fun hsize hfree => ?_, fun hin hbusy => ?_⟩
  · have hcreates : a.size.toNat ≠ 0 := fun h => by simp [h] at hsize
    have hcompletion : a.completionQueue.toNat ≤ 3 := by have := cq.isLt; omega
    have hin := hpass.mpr ⟨hlane, .inr hbase, List.mem_cons_of_mem _ hsize, .inr hcompletion, nofun⟩
    rw [haccepted hin hfree, RequestQueue.claimed, if_neg hcreates, toFour_eq hcq]
  · have hin := hpass.mpr ⟨hlane, .inl hsize, by simp [hsize], .inl hsize, nofun⟩
    refine ⟨RequestQueue.absent, rfl, ?_⟩
    rw [haccepted hin hfree, RequestQueue.claimed, if_pos hsize]
  · rw [exec_setRequestQueue hread hin hl, claimRequestQueue_of_busy (s := taken s adm) hbusy, decided_none]

end Sys2Proof.Machine
end

section
/-! LOAD_FILTER and READ_COUNTERS (R73, R148, R158, R159): the match entry a command loads, the block of the counters it
reads, and their clear at the write's end. -/

namespace Sys2Proof.Machine

open Sys2Proof.Claims

/-! ## LOAD_FILTER -/

theorem toEntry_eq {x : Byte} {i : EntryId} (h : x.toNat = i.val) : toEntry x = i :=
  Fin.ext (by simp only [toEntry, h]; exact Nat.mod_eq_of_lt i.isLt)

/-- A code that names a match action is in range (R73, R176). -/
theorem matchAction_of_getElem {code : Byte} {act : Action}
    (h : [Action.press, .end_, .both, .each, .count, .drop, .wake][code.toNat]? = some act) :
    code.toNat ≤ 6 ∧ matchAction code = act := by
  obtain ⟨hlength, hact⟩ := List.getElem?_eq_some_iff.mp h
  have hcode : code.toNat < 7 := hlength
  subst hact
  unfold matchAction
  obtain hc | hc | hc | hc | hc | hc | hc : code.toNat = 0 ∨ code.toNat = 1 ∨ code.toNat = 2 ∨ code.toNat = 3 ∨
      code.toNat = 4 ∨ code.toNat = 5 ∨ code.toNat = 6 := by omega
  all_goals simp [hc]

theorem exec_loadFilter {s : State} {adm : AdminQueue} {a : FilterArgs} {i : EntryId} (h : EntryRead s adm)
    (hpass : firstBad (filterChecks a) = none) (hi : a.entry.toNat = i.val) (tag : Half) :
    exec (.loadFilter tag a) s =
      .next (chooseEvent
        (answered ((taken s adm).setEntry i { filter := filterOf a, hits := 0 }) .ok tag 0 0)) := by
  rw [← toEntry_eq hi]
  exact congrArg Host.Outcome.next (takeChecked_of_pass h hpass tag _)

/-- Settles O24: the entry loaded is `filterOf`, with every code in its range. -/
theorem loadFilterReplacesEntry : Obligations.LoadFilterReplacesEntry := by
  intro tag a s adm i hread hi t
  have hentry : a.entry.toNat ≤ 63 := by have := i.isLt; omega
  obtain ⟨-, -, -, -, hranges, -⟩ := fieldRanges
  have hpass := firstOut_none_iff (hranges a)
  simp only [List.forall_mem_cons] at hpass
  refine ⟨fun hvalid => ?_, fun p act target hvalid hp htarget hact => ?_⟩
  · have hin := hpass.mpr ⟨hentry, by omega, .inl hvalid, .inl hvalid, .inl hvalid, nofun⟩
    rw [exec_loadFilter hread hin hi, filterOf, isOn, hvalid]
    rfl
  · have hslot : a.profile.toNat ≤ 15 := by have := p.isLt; omega
    have hqueue : a.target.toNat ≤ 3 := by have := target.isLt; omega
    obtain ⟨hcode, haction⟩ := matchAction_of_getElem hact
    have hin := hpass.mpr ⟨hentry, by omega, .inr hslot, .inr hcode, .inr hqueue, nofun⟩
    refine ⟨{ lanes := a.lanes.setWidth 4, profile := toSlot a.profile, mask := a.mask, value := a.value,
              action := matchAction a.action, target := toFour a.target, tag := a.entryTag },
      ?_, toSlot_eq hp, rfl, rfl, haction, toFour_eq htarget, rfl, fun l => ?_⟩
    · rw [exec_loadFilter hread hin hi, filterOf, isOn, hvalid]
      rfl
    · rw [BitVec.getLsbD_setWidth, decide_eq_true l.isLt, Bool.true_and]

/-! ## The block of counters -/

/-- The counters of a lane in index order (R36). -/
theorem counters_toList (x : LaneState) :
    x.counters.toList =
      [LaneCounter.framesGood, .framesBad, .repeats, .orphans, .noise, .captureDrops, .collisions,
        .lostEvents].map x.counter := by
  refine List.ext_getElem (by simp) fun n hn _ => ?_
  rw [Vector.length_toList] at hn
  obtain rfl | rfl | rfl | rfl | rfl | rfl | rfl | rfl :
      n = 0 ∨ n = 1 ∨ n = 2 ∨ n = 3 ∨ n = 4 ∨ n = 5 ∨ n = 6 ∨ n = 7 := by omega
  all_goals rfl

/-- The hit counts of a range that ends inside the match table (R158). -/
theorem hits_toList {s : State} {first count : Nat} (h : first + count ≤ 64) :
    ((s.matchTable.toList.drop first).take count).map MatchEntry.hits =
      (List.range count).map fun k => (s.entry (toEntry (BitVec.ofNat 8 (first + k)))).hits := by
  refine List.ext_getElem (by simp; omega) fun k _ hk => ?_
  rw [List.length_map, List.length_range] at hk
  have hentry : toEntry (BitVec.ofNat 8 (first + k)) = ⟨first + k, by omega⟩ := toEntry_eq (by simp; omega)
  simp only [List.getElem_map, List.getElem_take, List.getElem_drop, List.getElem_range, hentry]
  rfl

theorem counterBytes_map {α : Type} (f : α → Word) (xs : List α) :
    counterBytes (xs.map f) = xs.flatMap fun x => wordBytes (f x) :=
  List.flatMap_map ..

/-! ## READ_COUNTERS -/

/-- The taking has freed the command unit's place at the bus port, so the write of the block is pending (R158). -/
theorem exec_readCounters {s : State} {adm : AdminQueue} {a : CounterArgs} (h : EntryRead s adm)
    (hpass : firstBad (counterChecks a) = none) (tag : Half) :
    exec (.readCounters tag a) s =
      .next (chooseEvent
        ((setAdmin (.executing tag (.counterWrite (counterSource a) (isOn a.clear))) (taken s adm)).setBus .commandUnit
          (.pending
            { purpose := .counterBlock, address := a.address,
              length := (counterBytes (s.counterBlock (counterSource a))).length,
              data := counterBytes (s.counterBlock (counterSource a)) }))) := by
  have hfree : (taken s adm).busSlot .commandUnit = .idle := State.setBus_busSlot_self s .commandUnit .idle
  have hblock : (taken s adm).counterBlock (counterSource a) = s.counterBlock (counterSource a) := by
    cases counterSource a <;> rfl
  refine (congrArg Host.Outcome.next (takeChecked_of_pass h hpass tag (beginCounters tag a))).trans ?_
  unfold beginCounters
  dsimp only
  rw [askBus_of_idle (by exact hfree), hblock]

theorem exec_counterBlockWriteEnd {s : State} {tag : Half} {source : CounterSource} {clear : Bool}
    (h : Outstanding s .commandUnit .counterBlock) (hx : s.admin.state = .executing tag (.counterWrite source clear))
    (busError : Bool) :
    exec (.counterBlockWriteEnd busError) s =
      .next (chooseEvent (endCounters tag source clear busError (s.setBus .commandUnit .idle))) := by
  obtain ⟨hrun, t, hbus, hpurpose⟩ := h
  show execCounterBlockWriteEnd busError s = _
  unfold execCounterBlockWriteEnd
  rw [endTransaction_running hrun hbus (by simp [hpurpose])]
  simp [hx]

theorem isOn_eq_decide (code : Byte) : isOn code = decide (code.toNat = 1) := by
  rw [isOn, Bool.eq_iff_iff, beq_iff_eq, decide_eq_true_eq]

/-- Settles O30: the block by its source (`counters_toList`, `hits_toList`), and the four ends of its write. -/
theorem readCountersWritesBlock : Obligations.ReadCountersWritesBlock := by
  intro tag s
  refine ⟨fun a adm hread hpass => ?_, fun source clear hwrite hx => ?_⟩
  · have hexec := exec_readCounters hread hpass tag
    rw [isOn_eq_decide] at hexec
    refine ⟨fun l hsource hl => ?_, fun hsource => ?_⟩
    · have hlane : counterSource a = .lane l := by rw [counterSource, if_pos hsource, toFour_eq hl]
      rw [hexec, hlane, State.counterBlock, counters_toList, counterBytes_map]
      rfl
    · obtain ⟨-, -, -, -, -, -, -, -, -, hranges, -⟩ := fieldRanges
      have hin := (firstOut_none_iff (hranges a)).mp hpass
      simp only [List.forall_mem_cons] at hin
      obtain ⟨-, -, -, hcount, -⟩ := hin
      have hlast : a.firstEntry.toNat + a.entryCount.toNat ≤ 64 := by omega
      have hhits : counterSource a = .hits a.firstEntry.toNat a.entryCount.toNat := by
        rw [counterSource, if_neg (by omega)]
      rw [hexec, hhits, State.counterBlock, hits_toList hlast, counterBytes_map]
      rfl
  · have hexec := exec_counterBlockWriteEnd hwrite hx
    refine ⟨hexec true, ?_, ?_, ?_⟩
    · rintro rfl
      exact hexec false
    · rintro l rfl rfl
      exact hexec false
    · rintro first count rfl rfl
      refine ⟨_, hexec false, rfl, fun i => ?_⟩
      simp [clearCounters]

end Sys2Proof.Machine
end

section
/-! The refusals of SET_LANE (R149, R150): a slot named twice, a slot that cannot be armed, and a busy lane. -/

namespace Sys2Proof.Machine

open Sys2Proof.Claims

/-! ## The armed list -/

/-- The first member of a list that is there already is where `firstDuplicate` stops (R149 (1)). -/
theorem firstDuplicate_of_getElem {armed seen : List SlotId} {n k : Nat} {i : SlotId} (hk : armed[k]? = some i)
    (hi : i ∈ seen ∨ i ∈ armed.take k) (hnodup : (armed.take k).Nodup)
    (hnew : ∀ j ∈ armed.take k, j ∉ seen) :
    firstDuplicate n seen armed = some (n + k) := by
  induction armed generalizing n seen k with
  | nil => simp at hk
  | cons x rest ih =>
    unfold firstDuplicate
    cases k with
    | zero =>
      obtain rfl : x = i := by simpa using hk
      have hseen : x ∈ seen := by simpa using hi
      simp [hseen]
    | succ k =>
      rw [List.take_succ_cons] at hi hnodup hnew
      obtain ⟨hx, hrest⟩ := List.nodup_cons.mp hnodup
      obtain ⟨hxseen, hnewrest⟩ := List.forall_mem_cons.mp hnew
      rw [if_neg (by simpa using hxseen), ih (by simpa using hk) ?_ hrest ?_]
      · congr 1
        omega
      · rcases hi with hseen | hin
        · exact .inl (List.mem_cons_of_mem x hseen)
        · rcases List.mem_cons.mp hin with rfl | hrestin
          · exact .inl (List.mem_cons_self ..)
          · exact .inr hrestin
      · intro j hj
        rw [List.mem_cons, not_or]
        exact ⟨fun hjx => hx (hjx ▸ hj), hnewrest j hj⟩

theorem firstDuplicate_of_nodup {armed seen : List SlotId} {n : Nat} (hnodup : armed.Nodup)
    (hnew : ∀ j ∈ armed, j ∉ seen) : firstDuplicate n seen armed = none := by
  induction armed generalizing n seen with
  | nil => rfl
  | cons x rest ih =>
    obtain ⟨hx, hrest⟩ := List.nodup_cons.mp hnodup
    obtain ⟨hxseen, hnewrest⟩ := List.forall_mem_cons.mp hnew
    unfold firstDuplicate
    rw [if_neg (by simpa using hxseen), ih hrest fun j hj => ?_]
    rw [List.mem_cons, not_or]
    exact ⟨fun hjx => hx (hjx ▸ hj), hnewrest j hj⟩

/-- A slot that a lane may arm: VALID, with a leader (R149 (2)). -/
def Armable (s : State) (i : SlotId) : Prop := ∃ p, s.slot i = .valid p ∧ p.leaderMark ≠ 0

theorem armable_iff {s : State} {i : SlotId} :
    Armable s i ↔ ((s.slot i).isValid && (s.profile i).leaderMark != 0) = true := by
  unfold Armable State.profile
  cases s.slot i <;> simp [Slot.isValid, Slot.profile]

/-- The first member of a list that is not armable is where `firstUnarmable` stops (R149 (2)). -/
theorem firstUnarmable_of_getElem {s : State} {armed : List SlotId} {n k : Nat} {i : SlotId}
    (hk : armed[k]? = some i) (hi : ¬ Armable s i) (hbefore : ∀ j ∈ armed.take k, Armable s j) :
    firstUnarmable s n armed = some (n + k) := by
  induction armed generalizing n k with
  | nil => simp at hk
  | cons x rest ih =>
    unfold firstUnarmable
    cases k with
    | zero =>
      obtain rfl : x = i := by simpa using hk
      exact if_neg (mt armable_iff.mpr hi)
    | succ k =>
      obtain ⟨hx, hrest⟩ := List.forall_mem_cons.mp hbefore
      rw [if_pos (armable_iff.mp hx), ih (by simpa using hk) hrest]
      congr 1
      omega

theorem firstUnarmable_of_armable {s : State} {armed : List SlotId} {n : Nat} (h : ∀ i ∈ armed, Armable s i) :
    firstUnarmable s n armed = none := by
  induction armed generalizing n with
  | nil => rfl
  | cons x rest ih =>
    obtain ⟨hx, hrest⟩ := List.forall_mem_cons.mp h
    unfold firstUnarmable
    rw [if_pos (armable_iff.mp hx), ih hrest]

/-! ## The command -/

/-- A lane with an active request, or reading an entry or a list (R150). -/
theorem refusesSettings_iff {x : LaneState} :
    x.refusesSettings = true ↔ x.seq.active.isSome ∨ x.seq.state = .fetch ∨ x.seq.state = .listFetch := by
  simp [LaneState.refusesSettings, or_assoc]

theorem exec_setLane {s : State} {adm : AdminQueue} {a : LaneArgs} (h : EntryRead s adm)
    (hpass : firstBad (laneChecks a) = none) (tag : Half) :
    exec (.setLane tag a) s = .next (chooseEvent (setLaneChecked tag a (taken s adm))) :=
  congrArg Host.Outcome.next (takeChecked_of_pass h hpass tag _)

/-- Settles O25: the taking changes no slot and no lane, so each check stops where the statement says. -/
theorem setLaneRefusals : Obligations.SetLaneRefusals := by
  intro tag a s adm l hread hpass hl refused armed x armable
  have hexec := exec_setLane hread hpass tag
  have hsingle (hnodup : armed.Nodup) : firstDuplicate 12 [] (armedList a) = none :=
    firstDuplicate_of_nodup hnodup fun _ _ => List.not_mem_nil
  refine ⟨fun k i hk hi hnodup => ?_, fun k i hnodup hk hi hbefore => ?_, fun hnodup harmable hbusy => ?_⟩
  · have htwice : firstDuplicate 12 [] (armedList a) = some (12 + k) :=
      firstDuplicate_of_getElem hk (.inr hi) hnodup fun _ _ => List.not_mem_nil
    rw [hexec, setLaneChecked, htwice]
    rfl
  · have hslot : firstUnarmable (taken s adm) 12 (armedList a) = some (12 + k) :=
      firstUnarmable_of_getElem hk hi hbefore
    simp only [hexec, setLaneChecked, hsingle hnodup, hslot]
    rfl
  · have hslots : firstUnarmable (taken s adm) 12 (armedList a) = none := firstUnarmable_of_armable harmable
    have hrefuses : ((taken s adm).lane l).refusesSettings = true := refusesSettings_iff.mpr hbusy
    simp only [hexec, setLaneChecked, hsingle hnodup, hslots, toFour_eq hl, hrefuses, if_true]
    rfl

end Sys2Proof.Machine
end

section
/-! RESET_LANE with nothing to flush and no request in hand (R58, R65, R154, R155): the lane reports at once, and what
its reset does to the lane, to the capture list and to its capture write. -/

namespace Sys2Proof.Machine

open Sys2Proof.Claims

/-! ## The capture write -/

theorem State.setBus_busSlot_same (c : BusClient) (s : State) : s.setBus c (s.busSlot c) = s := by
  unfold State.setBus
  rw [show s.bus.slots.set (busIndex c).val (s.busSlot c) = s.bus.slots from Vector.set_getElem_self _]

theorem discardCaptureWrite_eq_setBus (l : Lane) (s : State) :
    discardCaptureWrite l s =
      s.setBus (.captureWriter l) (captureUnwanted (s.busSlot (.captureWriter l))) := by
  unfold discardCaptureWrite
  cases h : s.busSlot (.captureWriter l) with
  | idle => exact (h ▸ State.setBus_busSlot_same (.captureWriter l) s).symm
  | pending t => rfl
  | outstanding t => rfl

/-- A lane's reset and the command unit's state do not touch each other (R154). -/
theorem resetLane_setAdmin (l : Lane) (x : AdminState) (s : State) :
    resetLane l (setAdmin x s) = setAdmin x (resetLane l s) := by
  unfold resetLane
  simp only [discardCaptureWrite_eq_setBus, setAdmin_lane]
  split <;> rfl

/-! ## Nothing to end -/

/-- A queue that is not RUNNING, or has head equal to tail, has no entry waiting (R83). -/
theorem waiting_eq_zero {q : RequestQueue} (h : q.state ≠ .running ∨ q.head = q.tail) : q.waiting = 0 := by
  unfold RequestQueue.waiting
  cases hstate : q.state with
  | absent => rfl
  | faulted => rfl
  | running =>
    obtain hne | heq := h
    · exact absurd hstate hne
    · rw [heq, Nat.add_sub_cancel_left, Nat.mod_self]

theorem toFlush_of_idle {x : LaneState} (h : x.seq.state = .idle) : x.toFlush = x.queue.waiting := by
  simp only [LaneState.toFlush, h]

section
variable {l : Lane} {s : State}

theorem abortInHand_of_idle (hidle : (s.lane l).seq.state = .idle) (hactive : (s.lane l).seq.active = none)
    (flush : Bool) : abortInHand l flush s = (s, 0) := by
  simp only [abortInHand, hidle, hactive]

/-- A lane with no abort of its own in progress decides a RESET_LANE by its reset (R154). -/
theorem reportAbort_of_reset {tag : Half} {l' : Lane} (habort : (s.lane l).seq.abort = none)
    (h : s.admin.state = .executing tag (.laneAbort l' true)) (n : Nat) :
    reportAbort l n s = answered (resetLane l s) .ok tag 0 n := by
  have hsame : s.modSeq l (fun q => { q with abort := none }) = s := by
    rw [State.modSeq_def, ← habort, State.setLane_lane_same]
  simp only [reportAbort, hsame, h, if_true, postDone_eq_answered]

/-- With nothing to flush and no request in hand a RESET_LANE is decided at once (R154). -/
theorem abortLane_of_nothing (hone : (s.lane l).oneRequest) (hidle : (s.lane l).seq.state = .idle)
    (habort : (s.lane l).seq.abort = none) (hqueue : (s.lane l).queue.waiting = 0) (tag : Half) :
    abortLane tag l true true s = answered (resetLane l s) .ok tag 0 0 := by
  obtain ⟨-, -, -, -, hrest, -⟩ := hone
  have hcaught := abortInHand_of_idle (s := setAdmin (.executing tag (.laneAbort l true)) s) hidle
    (hrest (.inl hidle)) true
  simp only [abortLane, hcaught, setAdmin_lane, toFlush_of_idle hidle, hqueue, if_true, and_self]
  rw [reportAbort_of_reset (s := setAdmin (.executing tag (.laneAbort l true)) s) habort rfl, resetLane_setAdmin]
  rfl

/-! ## What the reset keeps and returns -/

/-- The event whose write is in flight is kept, and every other is discarded (R155). -/
theorem outboxAtReset_of_unsettled (h : (s.lane l).outbox.settling = none) {kept : Option RxEvent}
    (hflight : (∃ q, s.writer.inFlight = some (.outbox l, q)) → kept = (s.lane l).outbox.events.head?)
    (hnone : (¬ ∃ q, s.writer.inFlight = some (.outbox l, q)) → kept = none) :
    s.outboxAtReset l =
      (if kept.isSome then (s.lane l).outbox.events.tail else (s.lane l).outbox.events, kept) := by
  unfold State.outboxAtReset
  dsimp only
  rw [h]
  by_cases hwrites : ∃ q, s.writer.inFlight = some (.outbox l, q)
  · rw [hflight hwrites]
    obtain ⟨q, hq⟩ := hwrites
    rw [hq]
    cases (s.lane l).outbox.events with
    | nil => rfl
    | cons ev rest => exact if_pos rfl
  · rw [hnone hwrites]
    dsimp only
    split
    · rename_i l' q ev rest hq hevents
      rw [if_neg fun hl : l' = l => hwrites ⟨q, hl ▸ hq⟩, hevents]
      rfl
    · rfl

/-- The two groups of buffers come one after the other, in either order (R154; log entry 10). -/
theorem returnsInOrder_cases (n : Nat) (held boxed : List Word) :
    returnsInOrder n held boxed = held ++ boxed ∨ returnsInOrder n held boxed = boxed ++ held := by
  unfold returnsInOrder
  split
  · rename_i hheld
    simp [List.isEmpty_iff.mp hheld]
  · split
    · rename_i hboxed
      simp [List.isEmpty_iff.mp hboxed]
    · split
      · exact .inr rfl
      · exact .inl rfl

end

/-! ## The command -/

theorem exec_resetLane {s : State} {adm : AdminQueue} {lane : Byte} {l : Lane} (h : EntryRead s adm)
    (hl : lane.toNat = l.val) (tag : Half) :
    exec (.resetLane tag lane) s = .next (chooseEvent (abortLane tag l true true (taken s adm))) := by
  rw [← toFour_eq hl]
  exact congrArg Host.Outcome.next (takeChecked_of_pass h (laneOnlyChecks_pass hl) tag _)

/-- Settles O28: the command is decided at once (`abortLane_of_nothing`), and the reset discards the capture write only
of a lane whose capture writer holds a capture. -/
theorem resetLaneReturnsLane : Obligations.ResetLaneReturnsLane := by
  intro tag lane s adm l hread hl hone hidle habort hqueue hsettling x kept boxed held u v
  have hslot : (taken s adm).busSlot (.captureWriter l) = s.busSlot (.captureWriter l) :=
    State.setBus_busSlot_ne s .idle nofun
  refine ⟨returnsInOrder s.freeIndex held boxed,
    if held.isEmpty || boxed.isEmpty then s.freeIndex else s.freeIndex + 1, returnsInOrder_cases .., ?_⟩
  rw [exec_resetLane hread hl,
    abortLane_of_nothing (s := taken s adm) hone hidle habort (waiting_eq_zero hqueue) tag, resetLane,
    outboxAtReset_of_unsettled (s := taken s adm) hsettling (kept := kept) (fun h => if_pos h) fun h => if_neg h,
    discardCaptureWrite_eq_setBus, hslot]
  by_cases hcapture : ((taken s adm).lane l).capture.isSome = true
  · rw [if_pos hcapture, show v = _ from if_pos hcapture]
    rfl
  · rw [if_neg hcapture, show v = _ from if_neg hcapture]
    rfl

end Sys2Proof.Machine
end

section
/-! The register window's writes (R160, R162 to R164), and the states that an engine stop, a reset and ENABLE lead to
(R167 to R171, R175). -/

namespace Sys2Proof.Machine

open Sys2Proof.Claims

/-! ## Outstanding transactions -/

/-- Every place in the bus port is some client's (R173). -/
theorem busIndex_surjective (i : Fin 10) : ∃ c, busIndex c = i := by
  by_cases hunit : i.val = 0
  · exact ⟨.commandUnit, Fin.ext hunit.symm⟩
  by_cases hseq : i.val ≤ 4
  · exact ⟨.sequencer ⟨i.val - 1, by omega⟩, Fin.ext (Nat.sub_add_cancel (by omega))⟩
  by_cases hcapture : i.val ≤ 8
  · exact ⟨.captureWriter ⟨i.val - 5, by omega⟩, Fin.ext (Nat.sub_add_cancel (by omega))⟩
  · exact ⟨.eventWriter, Fin.ext (show 9 = i.val by omega)⟩

theorem isOutstanding_iff {x : BusSlot} : x.isOutstanding = true ↔ ∃ t, x = .outstanding t := by
  cases x <;> simp [BusSlot.isOutstanding]

theorem anyOutstanding_iff {s : State} : s.anyOutstanding = true ↔ SomeOutstanding s := by
  simp only [State.anyOutstanding, List.any_eq_true, Vector.mem_toList_iff, Vector.mem_iff_getElem, isOutstanding_iff]
  constructor
  · rintro ⟨x, ⟨i, hi, hx⟩, t, rfl⟩
    obtain ⟨c, hc⟩ := busIndex_surjective ⟨i, hi⟩
    refine ⟨c, t, ?_⟩
    simp only [State.busSlot, hc]
    exact hx
  · rintro ⟨c, t, hbus⟩
    exact ⟨_, ⟨(busIndex c).val, (busIndex c).isLt, rfl⟩, t, hbus⟩

theorem settleStopping_of_outstanding {s : State} (h : SomeOutstanding s) : settleStopping s = s :=
  if_pos (anyOutstanding_iff.mpr h)

theorem settleStopping_of_none {s : State} (h : ¬ SomeOutstanding s) : settleStopping s = reachOff s :=
  if_neg (mt anyOutstanding_iff.mp h)

theorem dropPending_eq_outstanding {x : BusSlot} {t : Transaction} :
    x.dropPending = .outstanding t ↔ x = .outstanding t := by
  cases x <;> simp [BusSlot.dropPending]

/-- Dropping the pending requests leaves the outstanding transactions as they are (R175). -/
theorem someOutstanding_of_dropPending {s t : State} (h : ∀ c, t.busSlot c = (s.busSlot c).dropPending) :
    SomeOutstanding t ↔ SomeOutstanding s := by
  simp only [SomeOutstanding, h, dropPending_eq_outstanding]

@[simp] theorem stopBlocks_busSlot (s : State) (c : BusClient) :
    (stopBlocks s).busSlot c = (s.busSlot c).dropPending := by simp [stopBlocks]

@[simp] theorem resetBlocks_busSlot (s : State) (c : BusClient) :
    (resetBlocks s).busSlot c = (s.busSlot c).dropPending := by simp [resetBlocks]

/-! ## CONTROL, by the engine's state -/

section
variable {word : Word} {s : State}

/-- A write with RESET 0 that neither enables nor stops the engine sets the interrupt enable alone (R162). -/
theorem writeControl_irqEnable (h1 : word.getLsbD 1 = false)
    (h : s.engine = .stopping ∨ s.engine = .off ∧ word.getLsbD 0 = false ∨ s.engine = .running ∧ word.getLsbD 0 = true) :
    writeControl word s = { s with irqEnable := word.getLsbD 2 } := by
  unfold writeControl
  rw [if_neg (by rw [h1]; exact Bool.false_ne_true)]
  obtain hstopping | ⟨hoff, h0⟩ | ⟨hrun, h0⟩ := h
  · simp only [hstopping]
  · simp only [hoff, h0]
  · simp only [hrun, h0]

theorem writeControl_enable (h0 : word.getLsbD 0 = true) (h1 : word.getLsbD 1 = false) (hoff : s.engine = .off) :
    writeControl word s = enableEngine { s with irqEnable := word.getLsbD 2 } := by
  unfold writeControl
  rw [if_neg (by rw [h1]; exact Bool.false_ne_true)]
  simp only [hoff, h0]

end

/-! ## Engine stop and reset -/

theorem each_each {α β γ : Type} {n : Nat} (g : β → γ) (f : α → β) (xs : Vector α n) :
    each g (each f xs) = each (fun x => g (f x)) xs :=
  Vector.ext fun i hi => by simp

theorem each_replicate {α β : Type} {n : Nat} (f : α → β) (x : α) :
    each f (Vector.replicate n x) = Vector.replicate n (f x) :=
  Vector.ext fun i hi => by simp

theorem Slot.stopped_eq_ite (x : Slot) : x.stopped = if x = .loading then .invalid else x := by
  cases x <;> simp [Slot.stopped]

/-- Settles O6: the blocks of `resetBlocks`, which keeps the outstanding transactions; OFF clears nothing that a reset
has left set. -/
theorem engineResetSetsEveryBlock : Obligations.EngineResetSetsEveryBlock := by
  intro word s after
  have hkept : SomeOutstanding (resetBlocks s) ↔ SomeOutstanding s :=
    someOutstanding_of_dropPending (resetBlocks_busSlot s)
  refine ⟨fun h1 hout => ?_, fun h1 hnone => ?_, rfl⟩
  · exact congrArg Host.Outcome.next
      ((writeControl_reset h1 s).trans (settleStopping_of_outstanding (hkept.mpr hout)))
  · have hoff : reachOff (resetBlocks s) = { after with engine := .off } := by
      unfold reachOff
      rw [show (resetBlocks s).eqs = Vector.replicate 4 EventQueue.reset from rfl, each_replicate]
      rfl
    exact congrArg Host.Outcome.next
      ((writeControl_reset h1 s).trans ((settleStopping_of_none (mt hkept.mp hnone)).trans hoff))

/-- Settles O8: the blocks of `stopBlocks`, which keeps the outstanding transactions; a slot in LOADING is the one
`Slot.stopped` changes. -/
theorem engineStopDiscardsWork : Obligations.EngineStopDiscardsWork := by
  intro word s h0 h1 hrun after
  have hstop : exec (.engineStop word) s = .next (settleStopping after) := by
    refine congrArg Host.Outcome.next ((writeControl_stop h0 h1 hrun).trans (congrArg settleStopping ?_))
    unfold stopBlocks
    rw [show Slot.stopped = fun x => if x = .loading then .invalid else x from funext Slot.stopped_eq_ite]
    rfl
  have hkept : SomeOutstanding after ↔ SomeOutstanding s :=
    someOutstanding_of_dropPending fun c => by simp [after]
  rw [hstop]
  refine ⟨fun hout => ?_, fun hnone => ?_⟩
  · rw [settleStopping_of_outstanding (hkept.mpr hout)]
  · rw [settleStopping_of_none (mt hkept.mp hnone)]
    unfold reachOff
    rw [show after.eqs = each EventQueue.stopped s.eqs from rfl, each_each]
    rfl

/-! ## Enable -/

theorem receiving_eq_receives (m : LaneMode) : receiving m = m.receives := by
  cases m <;> rfl

/-- The mask of ADMIN_BASE clears the low four bits of a word (R164). -/
theorem and_baseMask (word : Word) : word &&& 0xFFFFFFF0#32 = word >>> 4 <<< 4 := by
  have hmask : ∀ i : Fin 32, (0xFFFFFFF0#32).getLsbD i.val = !decide (i.val < 4) := by decide
  refine BitVec.eq_of_getLsbD_eq fun i hi => ?_
  rw [BitVec.getLsbD_and, hmask ⟨i, hi⟩, BitVec.getLsbD_shiftLeft]
  by_cases hlow : i < 4
  · simp [hlow]
  · simp [hlow, hi, Nat.add_sub_of_le (Nat.not_lt.mp hlow)]

/-- The base and the size code that ADMIN_BASE expresses (R164). -/
theorem adminBaseFields (word : Word) :
    adminBaseAddress word = BitVec.ofNat 32 (word.toNat / 16 * 16) ∧ adminSizeCode word = word.toNat % 16 := by
  constructor
  · unfold adminBaseAddress
    rw [and_baseMask]
    apply BitVec.eq_of_toNat_eq
    simp [Nat.shiftRight_eq_div_pow, Nat.shiftLeft_eq]
  · simp [adminSizeCode]

theorem adminBaseOk_iff {word : Word} :
    adminBaseOk word = true ↔ word.toNat / 16 % 4 = 0 ∧ word.toNat % 16 ≤ 6 := by
  obtain ⟨hbase, hcode⟩ := adminBaseFields word
  have hlt := word.isLt
  have haddress : (adminBaseAddress word).toNat = word.toNat / 16 * 16 := by
    rw [hbase, BitVec.toNat_ofNat]
    exact Nat.mod_eq_of_lt (by omega)
  simp only [adminBaseOk, aligned, haddress, hcode, Bool.and_eq_true, decide_eq_true_eq, beq_iff_eq]
  omega

/-- A lane at ENABLE: the input side of a receiving lane samples its pin (R23, R168). -/
theorem LaneState.started_eq (x : LaneState) :
    x.started =
      { LaneState.reset with
        settings := x.settings, counters := x.counters, pinHigh := x.pinHigh
        filter :=
          if receiving x.settings.mode then
            some { mark := x.pinHigh == x.settings.inputHigh, firstEdge := 0, handed := false,
                   stuckReported := false, unblinded := none, excursion := none }
          else none
        decoder := if receiving x.settings.mode then .hunt 0 else .off } := by
  rw [receiving_eq_receives]
  unfold LaneState.started LaneState.stopped
  dsimp only
  split <;> rfl

/-- Settles O7: ADMIN_BASE is judged by `adminBaseOk_iff`, and every lane is as `LaneState.started_eq` says. -/
theorem enableEntersRunningOrFaults : Obligations.EnableEntersRunningOrFaults := by
  intro word s h0 h1 hoff
  have henable : exec (.enable word) s = .next (enableEngine { s with irqEnable := word.getLsbD 2 }) :=
    congrArg Host.Outcome.next (writeControl_enable h0 h1 hoff)
  rw [henable]
  unfold enableEngine
  obtain ⟨hbase, hcode⟩ := adminBaseFields s.adminBase
  refine ⟨fun hok => ?_, fun hbad => ?_⟩
  · rw [if_pos (adminBaseOk_iff.mpr hok)]
    unfold enterRunning
    rw [hbase, hcode, show LaneState.started = _ from funext LaneState.started_eq]
    rfl
  · rw [if_neg (mt adminBaseOk_iff.mp hbad)]

/-! ## Register writes -/

/-- Settles O9: the rows of a register are its one write (log entry 5), given by `writeControl_irqEnable` and by the bits
of STATUS. -/
theorem controlStatusAndAdminBaseWrites : Obligations.ControlStatusAndAdminBaseWrites := by
  intro word s cleared
  have hcleared (b clear : Bool) : (b && !clear) = if clear then false else b := by
    cases clear <;> simp
  have hstatus : writeStatus word s = cleared := by
    have hfault : (s.adminFault && !(word.getLsbD 2 && s.engine == .off)) =
        if word.getLsbD 2 = true ∧ s.engine = .off then false else s.adminFault := by
      simp only [hcleared, Bool.and_eq_true, beq_iff_eq]
    unfold writeStatus
    rw [hfault, hcleared, hcleared]
  refine ⟨rfl, rfl, rfl, fun h1 h => congrArg Host.Outcome.next (writeControl_irqEnable h1 h),
    congrArg Host.Outcome.next hstatus, congrArg Host.Outcome.next hstatus, congrArg Host.Outcome.next hstatus,
    fun hoff => congrArg Host.Outcome.next ?_, fun hon => congrArg Host.Outcome.next ?_, rfl⟩
  · unfold writeAdminBase
    simp only [hoff]
  · unfold writeAdminBase
    split
    · rename_i hoff
      exact absurd hoff hon
    all_goals rfl

/-- A write that the register window disregards changes nothing (R160). -/
theorem hostWrite_of_disregarded {offset width : Nat} (h : writeDisregarded offset width = true) (word : Word)
    (s : State) : hostWrite offset width word s = s := by
  simp only [writeDisregarded, Bool.or_eq_true, bne_iff_ne, beq_iff_eq, decide_eq_true_eq] at h
  unfold hostWrite
  split
  · split
    case h_6 => rfl
    all_goals omega
  · rfl

theorem writeDisregarded_iff {offset width : Nat} :
    writeDisregarded offset width = true ↔ width ≠ 4 ∨ offset % 4 ≠ 0 ∨ offset = 0 ∨ 0x18 ≤ offset := by
  simp [writeDisregarded, or_assoc]

theorem decodeHostWrite_control (word : Word) :
    decodeHostWrite 0x04 4 word =
      if word.getLsbD 1 then .engineReset word else if word.getLsbD 0 then .enable word else .engineStop word := rfl

theorem decodeHostWrite_status (word : Word) :
    decodeHostWrite 0x08 4 word =
      if word.getLsbD 3 then .submitErrorClear word
      else if word.getLsbD 4 then .ackErrorClear word
      else .adminFaultClear word := rfl

theorem decodeHostWrite_eventAck (word : Word) :
    decodeHostWrite 0x14 4 word = if word.getLsbD 31 then .clearNotice word else .eventAck word := rfl

/-- Settles O12: the row a write decodes to by its offset; the rows of one register are one write (log entry 5). -/
theorem hostWritesReachRegisters : Obligations.HostWritesReachRegisters := by
  intro offset width word s _ _
  refine ⟨fun hbad => ?_, ?_, ?_, ?_, ?_, ?_⟩
  · have hdisregarded := writeDisregarded_iff.mpr hbad
    exact ⟨if_pos hdisregarded, congrArg Host.Outcome.next (hostWrite_of_disregarded hdisregarded word s)⟩
  · rintro rfl rfl
    rw [decodeHostWrite_control]
    split
    · rfl
    · split <;> rfl
  · rintro rfl rfl
    rw [decodeHostWrite_status]
    split
    · rfl
    · split <;> rfl
  · rintro rfl rfl
    rfl
  · rintro rfl rfl
    rfl
  · rintro rfl rfl
    rw [decodeHostWrite_eventAck]
    split <;> rfl

end Sys2Proof.Machine
end

section
/-! The bus port (R170, R174): which request a grant starts, and the ends of transactions in STOPPING. -/

namespace Sys2Proof.Machine

open Sys2Proof.Claims

/-! ## Grants -/

/-- The place `n` after the pointer, counted round the bus port's ring (R174). -/
theorem busRing_getElem? (p n : Fin 10) :
    (([0, 1, 2, 3, 4, 5, 6, 7, 8, 9] : List (Fin 10)).drop p.val ++ [0, 1, 2, 3, 4, 5, 6, 7, 8, 9].take p.val)[n.val]? =
      some (p + n) := by
  revert p n
  decide

/-- A place is as far from the pointer as it stands after it, round the bus port's ring. -/
theorem busPointer_add_distance (p i : Fin 10) : p + (i - p) = i := by
  revert p i
  decide

theorem distance_of_busPointer_add (p n : Fin 10) : p + n - p = n := by
  revert p n
  decide

/-- The grant goes to the pending request nearest after the pointer, round the ring (R174). -/
theorem grantFrom_of_first {slots : Vector BusSlot 10} {p i : Fin 10} {t : Transaction} (hi : slots[i.val] = .pending t)
    (hfirst : ∀ j : Fin 10, (j - p).val < (i - p).val → ∀ u, slots[j.val] ≠ .pending u) :
    grantFrom slots p = some i := by
  unfold grantFrom
  obtain ⟨hlength, hget⟩ := List.getElem?_eq_some_iff.mp (busRing_getElem? p (i - p))
  rw [List.find?_eq_some_iff_getElem]
  refine ⟨by rw [hi], (i - p).val, hlength, hget.trans (busPointer_add_distance p i), fun n hn => ?_⟩
  obtain ⟨_, hnget⟩ := List.getElem?_eq_some_iff.mp (busRing_getElem? p ⟨n, Nat.lt_trans hn (i - p).isLt⟩)
  have hnone := hfirst (p + ⟨n, Nat.lt_trans hn (i - p).isLt⟩) (by rwa [distance_of_busPointer_add])
  rw [← hnget] at hnone
  split
  · rename_i u hu
    exact absurd hu (hnone u)
  all_goals rfl

theorem grantFrom_none {slots : Vector BusSlot 10} {p : Fin 10} (h : ∀ (j : Fin 10) u, slots[j.val] ≠ .pending u) :
    grantFrom slots p = none := by
  refine Option.eq_none_iff_forall_ne_some.mpr fun i hi => ?_
  obtain ⟨t, ht⟩ := grantFrom_pending hi
  exact h i t ht

/-- A grant starts a transaction in RUNNING alone (R175). -/
theorem exec_busGrant (s : State) :
    exec .busGrant s = .next (if s.engine = .running then startTransaction s else s) := by
  show execBusGrant s = _
  unfold execBusGrant
  cases s.engine <;> simp

/-- Settles O15: the grant by `grantFrom_of_first`; an end in STOPPING frees its place and settles the engine. -/
theorem busPortStartsAndEnds : Obligations.BusPortStartsAndEnds := by
  intro s
  refine ⟨fun i t hrun hi hfirst => ?_, fun hnone => ?_, fun c busError t hstopping hbus => ?_⟩
  · rw [exec_busGrant, if_pos hrun]
    simp only [startTransaction, grantFrom_of_first hi hfirst, hi]
  · rw [exec_busGrant]
    split
    · rename_i hrun
      have hidle := hnone.resolve_left fun hnot => hnot hrun
      simp only [startTransaction, grantFrom_none hidle]
    · rfl
  · intro others
    have hend : exec (.stoppingTransactionEnd c busError) s = .next (settleStopping (s.setBus c .idle)) := by
      show execStoppingTransactionEnd c busError s = _
      unfold execStoppingTransactionEnd
      rw [hstopping]
      exact congrArg Host.Outcome.next (endTransaction_stopping hstopping hbus rfl)
    have hothers : SomeOutstanding (s.setBus c .idle) ↔ others := by
      refine exists_congr fun c' => exists_congr fun u => ?_
      rw [State.setBus_busSlot]
      by_cases hc : c' = c <;> simp [hc]
    rw [hend]
    refine ⟨fun hmore => ?_, fun hlast => ?_⟩
    · rw [settleStopping_of_outstanding (hothers.mpr hmore)]
    · rw [settleStopping_of_none (mt hothers.mp hlast)]
      rfl

end Sys2Proof.Machine
end

section
/-! SUBMIT notices (R165): the fields of the word, and what the owner of a queue makes of a new tail (R85, R140). -/

namespace Sys2Proof.Machine

open Sys2Proof.Claims

/-! ## The word -/

/-- The queue id and the tail that a SUBMIT word carries (R165). -/
theorem submitFields (word : Word) :
    (word.extractLsb' 0 3).toNat = word.toNat % 8 ∧ (word.extractLsb' 16 8).toNat = word.toNat / 65536 % 256 := by
  simp [BitVec.extractLsb'_toNat, Nat.shiftRight_eq_div_pow]

section
variable {word : Word} {l : Lane} {s : State}

theorem writeSubmit_of_lane (h : word.toNat % 8 = l.val) :
    writeSubmit word s =
      (noticeRequestQueue l (word.toNat / 65536 % 256) s).getD { s with submitError := true } := by
  obtain ⟨hid, htail⟩ := submitFields word
  have hlt : (word.extractLsb' 0 3).toNat < 4 := by have := l.isLt; omega
  have hl : (⟨(word.extractLsb' 0 3).toNat, hlt⟩ : Lane) = l := Fin.ext (hid.trans h)
  unfold writeSubmit
  dsimp only
  rw [dif_pos hlt, hl, htail]

theorem writeSubmit_of_admin (h : word.toNat % 8 = 4) :
    writeSubmit word s = (noticeAdminQueue (word.toNat / 65536 % 256) s).getD { s with submitError := true } := by
  obtain ⟨hid, htail⟩ := submitFields word
  unfold writeSubmit
  dsimp only
  rw [dif_neg (by omega), if_pos (hid.trans h), htail]

theorem writeSubmit_of_no_queue (h : 5 ≤ word.toNat % 8) (s : State) :
    writeSubmit word s = { s with submitError := true } := by
  obtain ⟨hid, -⟩ := submitFields word
  unfold writeSubmit
  dsimp only
  rw [dif_neg (by omega), if_neg (by omega)]
  rfl

/-! ## Request queues -/

theorem noticeRequestQueue_refused {tail : Nat}
    (h : (s.lane l).queue.state = .absent ∨ (s.lane l).queue.size ≤ tail) : noticeRequestQueue l tail s = none := by
  unfold noticeRequestQueue
  dsimp only
  split
  · rfl
  all_goals
    rename_i hpresent
    rw [hpresent] at h
    simpa using h

theorem noticeRequestQueue_taken {tail : Nat} (hpresent : (s.lane l).queue.state ≠ .absent)
    (htail : tail < (s.lane l).queue.size) :
    noticeRequestQueue l tail s =
      some (fetchCheck l (s.setLane l { s.lane l with queue := { (s.lane l).queue with tail := tail } })) := by
  unfold noticeRequestQueue
  dsimp only
  split
  · contradiction
  all_goals exact if_pos htail

/-- A lane that may read its next entry asks for it in FETCH (R85). -/
theorem fetchCheck_of_mayFetch (h : (s.lane l).mayFetch = true) :
    fetchCheck l s =
      asked (.sequencer l) (entryAtHead (s.lane l).queue)
        (s.setLane l { s.lane l with seq := { (s.lane l).seq with state := .fetch } }) := by
  unfold fetchCheck
  rw [if_pos h, asked_eq_askBus]
  rfl

theorem fetchCheck_of_not_mayFetch (h : ¬ (s.lane l).mayFetch = true) : fetchCheck l s = s := if_neg h

end

/-! ## The admin queue -/

theorem noticeAdminQueue_of_none {s : State} (h : s.admin.queue = none) (tail : Nat) :
    noticeAdminQueue tail s = none := by
  unfold noticeAdminQueue
  rw [h]

theorem noticeAdminQueue_of_some {s : State} {q : AdminQueue} (h : s.admin.queue = some q) (tail : Nat) :
    noticeAdminQueue tail s =
      if tail < q.size then
        some (adminFetchCheck { s with admin := { s.admin with queue := some { q with tail := tail } } })
      else none := by
  unfold noticeAdminQueue
  rw [h]

/-- A command unit that is not IDLE, or has no entry waiting, begins no read (R140). -/
theorem adminFetchCheck_of_not {s : State} {q : AdminQueue} (hqueue : s.admin.queue = some q)
    (h : ¬ (s.admin.state = .idle ∧ q.head ≠ q.tail)) : adminFetchCheck s = s := by
  unfold adminFetchCheck
  split
  · rename_i hidle hq
    cases hqueue.symm.trans hq
    exact if_pos (Decidable.not_not.mp fun hne => h ⟨hidle, hne⟩)
  · rfl

/-- Settles O10: the word names the owner, whose notice is refused, begins a read or moves the tail alone. -/
theorem submitNoticeJudged : Obligations.SubmitNoticeJudged := by
  intro word s id tail refused
  have hexec {t : State} (h : writeSubmit word s = t) : exec (.submit word) s = .next t :=
    congrArg Host.Outcome.next h
  refine ⟨fun hnone => hexec (writeSubmit_of_no_queue hnone s), fun l hid => ?_, fun hid => ⟨fun hnone => ?_, ?_⟩⟩
  · intro x set
    have hsubmit := writeSubmit_of_lane (s := s) hid
    refine ⟨fun hbad => hexec ?_, fun ⟨hpresent, htail⟩ => ?_⟩
    · rw [hsubmit, noticeRequestQueue_refused hbad]
      rfl
    · have htaken : writeSubmit word s = fetchCheck l (s.setLane l set) := by
        rw [hsubmit, noticeRequestQueue_taken hpresent htail]
        rfl
      have hmay : ((s.setLane l set).lane l).mayFetch = true ↔
          x.seq.state = .idle ∧ x.queue.state = .running ∧ x.queue.head ≠ tail ∧ x.settings.mode ≠ .disabled := by
        rw [State.setLane_lane_self, mayFetch_iff]
        rfl
      refine ⟨fun hreads => hexec ?_, fun hrests => hexec ?_⟩
      · rw [htaken, fetchCheck_of_mayFetch (hmay.mpr hreads), State.setLane_lane_self, State.setLane_setLane]
        rfl
      · rw [htaken, fetchCheck_of_not_mayFetch (mt hmay.mp hrests)]
  · exact hexec (by rw [writeSubmit_of_admin hid, noticeAdminQueue_of_none hnone]; rfl)
  · intro q hq
    have hsubmit := writeSubmit_of_admin (s := s) hid
    rw [noticeAdminQueue_of_some hq] at hsubmit
    refine ⟨fun hbad => hexec ?_, fun htail => ?_⟩
    · rw [hsubmit, if_neg (Nat.not_lt.mpr hbad)]
      rfl
    · rw [if_pos htail] at hsubmit
      refine ⟨fun ⟨hidle, hwaits⟩ => hexec (hsubmit.trans ?_), fun hrests => hexec (hsubmit.trans ?_)⟩
      · exact (adminFetchCheck_of_idle
          (s := { s with admin := { s.admin with queue := some { q with tail := tail } } }) hidle rfl).trans
          (if_neg hwaits)
      · exact adminFetchCheck_of_not
          (s := { s with admin := { s.admin with queue := some { q with tail := tail } } }) rfl hrests

end Sys2Proof.Machine
end

section
/-! What reset leaves (R36, R171; 08, 8.5), and the invariants it meets. -/

namespace Sys2Proof.Machine

open Sys2Proof.Claims

/-! ## Readers of the reset state -/

@[simp] theorem reset_lane (l : Lane) : State.reset.lane l = LaneState.reset := by simp [State.reset]
@[simp] theorem reset_eq (q : EqId) : State.reset.eq q = EventQueue.reset := by simp [State.reset]
@[simp] theorem reset_slot (i : SlotId) : State.reset.slot i = .invalid := by simp [State.reset]
@[simp] theorem reset_entry (i : EntryId) : State.reset.entry i = MatchEntry.reset := by simp [State.reset]
@[simp] theorem reset_busSlot (c : BusClient) : State.reset.busSlot c = .idle := by simp [State.reset, BusPort.reset]

theorem reset_counter (c : LaneCounter) : LaneState.reset.counter c = 0 := by
  simp [LaneState.counter, LaneState.reset, countersReset]

/-- Settles O4: block by block, the output pin idle because nothing is on the line. -/
theorem resetContents : Obligations.ResetContents := by
  have hpin (l : Lane) (sub : Nat) : State.reset.outputPin l sub = false := by
    rw [outputPin_of_no_tx (by rw [reset_lane]; rfl), reset_lane]
    rfl
  refine ⟨rfl, rfl, rfl, rfl, rfl, rfl, rfl, reset_slot, reset_entry, fun l => ?_, rfl, rfl, fun q => ?_, rfl,
    reset_busSlot, rfl⟩
  · rw [reset_lane]
    exact ⟨rfl, reset_counter, rfl, rfl, rfl, rfl, rfl, rfl, rfl, rfl, rfl, hpin l⟩
  · rw [reset_eq]
    exact ⟨rfl, rfl, rfl, rfl, rfl, rfl, rfl, rfl⟩

/-! ## The invariants -/

theorem bounded_reset : Bounded State.reset :=
  bounded_of_reset (fun l => ⟨LaneState.reset, reset_lane l⟩) reset_eq rfl rfl

theorem slotsHeld_reset : SlotsHeld State.reset :=
  slotsHeld_of_nothing (fun l => by rw [State.use, reset_lane]; rfl) rfl

theorem buffersAccounted_reset : BuffersAccounted State.reset := by
  refine ⟨?_, Nat.zero_le _, fun l => ?_⟩
  · simp only [reset_lane]
    rfl
  · rw [reset_lane]
    exact ⟨fun _ => rfl, nofun, nofun⟩

/-- A reset lane has no request in any state of the sequencer but IDLE (R84). -/
theorem oneRequest_laneReset : LaneState.reset.oneRequest := by
  refine ⟨⟨nofun, nofun⟩, ⟨nofun, nofun⟩, nofun, nofun, fun _ => rfl, nofun, nofun⟩

theorem oneRequestEach_reset : OneRequestEach State.reset :=
  ⟨fun l => ⟨by rw [reset_lane]; exact oneRequest_laneReset, fun _ => reset_busSlot _⟩, nofun, nofun⟩

theorem quietUnlessRunning_reset : QuietUnlessRunning State.reset := by
  refine fun _ => ⟨fun l => ?_, rfl, rfl, rfl, rfl, fun q => ?_, fun c => ?_⟩
  · rw [reset_lane]
    rfl
  · rw [reset_eq]
    exact ⟨rfl, rfl, rfl, rfl⟩
  · rw [reset_busSlot]
    rfl

/-- Settles O5: each invariant of the reset state. -/
theorem resetMeetsInvariants : Obligations.ResetMeetsInvariants := by
  obtain ⟨hboxes, hsettings, hevents, hrequests⟩ := bounded_reset
  exact ⟨hboxes, hevents, hrequests, buffersAccounted_reset, slotsHeld_reset, quietUnlessRunning_reset, hsettings,
    oneRequestEach_reset⟩

end Sys2Proof.Machine
end

section
/-! Capture buffers on their way to the host (R58, R60, R157): POST_CAPTURE_BUFFER and the end of a capture's write. -/

namespace Sys2Proof.Machine

open Sys2Proof.Claims

/-! ## POST_CAPTURE_BUFFER -/

theorem postBuffer_of_room {s : State} (h : s.heldCount < 16) (address : Word) :
    postBuffer address s =
      some { s with captureList := s.captureList ++ [address], heldCount := s.heldCount + 1 } := if_pos h

theorem postBuffer_of_full {s : State} (h : 16 ≤ s.heldCount) (address : Word) : postBuffer address s = none :=
  if_neg (Nat.not_lt.mpr h)

theorem exec_postCaptureBuffer {s : State} {adm : AdminQueue} {address : Word} (h : EntryRead s adm)
    (ha : address.toNat % 4 = 0) (tag : Half) :
    exec (.postCaptureBuffer tag address) s =
      .next (chooseEvent (decided tag .listFull (postBuffer address (taken s adm)) (taken s adm))) := by
  have hpass : firstBad (captureBufferChecks address) = none := by simp [captureBufferChecks, firstBad, aligned, ha]
  exact congrArg Host.Outcome.next (takeChecked_of_pass h hpass tag _)

/-! ## The end of a capture's write -/

section
variable {l : Lane} {s : State} {c : FinishedCapture}

/-- The write that a finished capture waited for makes its event and frees the capture writer (R58). -/
theorem captureWriteEnds_of_wanted (h : Outstanding s (.captureWriter l) (.captureBuffer false))
    (hc : (s.lane l).capture = some c) (busError : Bool) :
    captureWriteEnds l busError s =
      enterOutbox l (captureEvent c (s.lane l).settings.defaultEq busError)
        ((s.setBus (.captureWriter l) .idle).setLane l { s.lane l with capture := none }) := by
  obtain ⟨hrun, t, hbus, hpurpose⟩ := h
  unfold captureWriteEnds
  rw [endTransaction_running hrun hbus (by rw [hpurpose]; rfl)]
  simp only [State.setBus_lane, hc, hpurpose]
  rfl

/-- A discarded write frees its place, and nothing waits for it. -/
theorem captureWriteEnds_of_none (h : Outstanding s (.captureWriter l) (.captureBuffer true))
    (hc : (s.lane l).capture = none) (busError : Bool) :
    captureWriteEnds l busError s = s.setBus (.captureWriter l) .idle := by
  obtain ⟨hrun, t, hbus, hpurpose⟩ := h
  unfold captureWriteEnds
  rw [endTransaction_running hrun hbus (by rw [hpurpose]; rfl)]
  simp only [State.setBus_lane, hc]

/-- A discarded write frees its place for the capture that waits behind it (log entry 13). -/
theorem captureWriteEnds_of_waiting (h : Outstanding s (.captureWriter l) (.captureBuffer true))
    (hc : (s.lane l).capture = some c) (busError : Bool) :
    captureWriteEnds l busError s = s.setBus (.captureWriter l) (.pending (captureWriteOf c)) := by
  obtain ⟨hrun, t, hbus, hpurpose⟩ := h
  unfold captureWriteEnds
  rw [endTransaction_running hrun hbus (by rw [hpurpose]; rfl)]
  simp only [State.setBus_lane, hc, hpurpose, if_true]
  rw [askBus_of_idle (State.setBus_busSlot_self ..), State.setBus_setBus]
  rfl

end

/-- Settles O40: the list's room decides the command, and the three ends of a write are those above. -/
theorem captureBuffersPostedAndReported : Obligations.CaptureBuffersPostedAndReported := by
  refine ⟨fun tag address s adm hread ha => ?_, fun l busError s => ?_⟩
  · intro t
    rw [exec_postCaptureBuffer hread ha]
    refine ⟨fun hroom => ?_, fun hfull => ?_⟩
    · rw [postBuffer_of_room (s := taken s adm) hroom, decided_some]
      rfl
    · rw [postBuffer_of_full (s := taken s adm) hfull, decided_none]
  · intro x free
    have hexec {t : State} (h : captureWriteEnds l busError s = t) :
        exec (.captureWriteEnd l busError) s = .next (chooseEvent t) :=
      congrArg (fun u => Host.Outcome.next (chooseEvent u)) h
    exact ⟨fun c hout hc => hexec (captureWriteEnds_of_wanted hout hc busError),
      fun hout => ⟨fun hc => hexec (captureWriteEnds_of_none hout hc busError),
        fun c hc => hexec (captureWriteEnds_of_waiting hout hc busError)⟩⟩

end Sys2Proof.Machine
end

section
/-! Neither the command unit nor the event writer nor a lane changes the engine's state (R167): that is left to the
writes of CONTROL, to the end of the last transaction in STOPPING and to a power-on reset. -/

namespace Sys2Proof.Machine

/-! ## The bus port and the event writer -/

@[simp] theorem askBus_engine (c : BusClient) (t : Transaction) (s : State) : (askBus c t s).engine = s.engine := by
  rcases askBus_cases c t s with ⟨-, hask⟩ | ⟨-, hask⟩ <;> rw [hask]
  rfl

@[simp] theorem releaseHeld_engine (ev : RxEvent) (s : State) : (releaseHeld ev s).engine = s.engine := by
  unfold releaseHeld
  split <;> rfl

@[simp] theorem leaveOutbox_engine (l : Lane) (s : State) : (leaveOutbox l s).engine = s.engine := by
  unfold leaveOutbox
  dsimp only
  split
  · exact releaseHeld_engine _ _
  · split
    · rfl
    · exact releaseHeld_engine _ _

@[simp] theorem dropSettling_engine (l : Lane) (s : State) : (dropSettling l s).engine = s.engine := by
  unfold dropSettling
  dsimp only
  split
  · rfl
  · split <;> rfl

/-! ## Lanes under the command unit -/

@[simp] theorem beginFetch_engine (l : Lane) (s : State) : (beginFetch l s).engine = s.engine :=
  (onlyLane_beginFetch l s).engine

@[simp] theorem fetchCheck_engine (l : Lane) (s : State) : (fetchCheck l s).engine = s.engine :=
  (onlyLane_fetchCheck l s).engine

@[simp] theorem abortInHand_engine (l : Lane) (flush : Bool) (s : State) : (abortInHand l flush s).1.engine = s.engine :=
  (onlyLane_abortInHand l flush s).engine

@[simp] theorem applySettings_engine (l : Lane) (new : LaneSettings) (g : GateCommand) (s : State) :
    (applySettings l new g s).engine = s.engine := (onlyLane_applySettings l new g s).engine

@[simp] theorem discardCaptureWrite_engine (l : Lane) (s : State) : (discardCaptureWrite l s).engine = s.engine := by
  rw [discardCaptureWrite_eq_setBus]
  rfl

@[simp] theorem resetLane_engine (l : Lane) (s : State) : (resetLane l s).engine = s.engine := by
  unfold resetLane
  dsimp only [State.setLane_engine]
  split
  · exact discardCaptureWrite_engine l s
  · rfl

/-! ## The command unit -/

@[simp] theorem postDone_engine (c : Code) (tag : Half) (p : Byte) (d : Nat) (s : State) :
    (postDone c tag p d s).engine = s.engine := rfl

@[simp] theorem advanceAdmin_engine (s : State) : (advanceAdmin s).engine = s.engine := rfl

@[simp] theorem adminFetchCheck_engine (s : State) : (adminFetchCheck s).engine = s.engine := by
  unfold adminFetchCheck
  split
  · split
    · rfl
    · exact askBus_engine _ _ _
  · rfl

theorem checked_engine {act : State → State} (hact : ∀ s, (act s).engine = s.engine) (tag : Half)
    (checks : List (Nat × Bool)) (s : State) : (checked tag checks act s).engine = s.engine := by
  unfold checked
  split
  · rfl
  · exact hact s

theorem decided_engine {claim : Option State} {s : State} (hclaim : ∀ t, claim = some t → t.engine = s.engine)
    (tag : Half) (refusal : Code) : (decided tag refusal claim s).engine = s.engine := by
  cases claim with
  | none => rfl
  | some t => exact hclaim t rfl

theorem claimEventQueue_engine {q : EqId} {a : EventQueueArgs} {s t : State} (h : claimEventQueue q a s = some t) :
    t.engine = s.engine := by
  by_cases hfree : EventQueueFree s q
  · rw [claimEventQueue_of_free hfree] at h
    cases h
    rfl
  · rw [claimEventQueue_of_busy hfree] at h
    cases h

theorem postBuffer_engine {address : Word} {s t : State} (h : postBuffer address s = some t) : t.engine = s.engine := by
  unfold postBuffer at h
  rw [Option.ite_none_right_eq_some] at h
  rw [← Option.some.inj h.2]

@[simp] theorem beginLoad_engine (tag : Half) (slot : Byte) (address : Word) (s : State) :
    (beginLoad tag slot address s).engine = s.engine := by
  unfold beginLoad
  dsimp only
  split
  · rfl
  · exact askBus_engine _ _ _

@[simp] theorem endLoad_engine (tag : Half) (i : SlotId) (record : Option ProfileRecord) (s : State) :
    (endLoad tag i record s).engine = s.engine := by
  unfold endLoad
  dsimp only
  split
  · rfl
  · split <;> rfl

@[simp] theorem clearSlot_engine (tag : Half) (slot : Byte) (s : State) : (clearSlot tag slot s).engine = s.engine := by
  unfold clearSlot
  dsimp only
  split <;> rfl

@[simp] theorem setLaneChecked_engine (tag : Half) (a : LaneArgs) (s : State) :
    (setLaneChecked tag a s).engine = s.engine := by
  unfold setLaneChecked
  dsimp only
  split
  · rfl
  · split
    · rfl
    · split
      · rfl
      · exact applySettings_engine _ _ _ _

@[simp] theorem reportAbort_engine (l : Lane) (n : Nat) (s : State) : (reportAbort l n s).engine = s.engine := by
  unfold reportAbort
  dsimp only
  split
  · split
    · exact resetLane_engine _ _
    · rfl
  all_goals rfl

@[simp] theorem abortLane_engine (tag : Half) (l : Lane) (flush reset : Bool) (s : State) :
    (abortLane tag l flush reset s).engine = s.engine := by
  have hcaught := abortInHand_engine l flush (setAdmin (.executing tag (.laneAbort l reset)) s)
  unfold abortLane
  dsimp only
  generalize abortInHand l flush (setAdmin (.executing tag (.laneAbort l reset)) s) = caught at hcaught ⊢
  generalize (if flush then _ else 0) = entries
  split
  · exact (reportAbort_engine _ _ _).trans hcaught
  · split
    · exact (beginFetch_engine _ _).trans hcaught
    all_goals exact hcaught

@[simp] theorem beginCounters_engine (tag : Half) (a : CounterArgs) (s : State) :
    (beginCounters tag a s).engine = s.engine := askBus_engine _ _ _

@[simp] theorem clearCounters_engine (source : CounterSource) (s : State) :
    (clearCounters source s).engine = s.engine := by
  cases source with
  | lane l => exact State.modLane_engine s l _
  | hits start count =>
    unfold clearCounters
    rfl

@[simp] theorem endCounters_engine (tag : Half) (source : CounterSource) (clear busError : Bool) (s : State) :
    (endCounters tag source clear busError s).engine = s.engine := by
  unfold endCounters
  split
  · rfl
  · split
    · exact clearCounters_engine _ _
    · rfl

/-! ## The writer of a written event -/

@[simp] theorem completionWritten_engine (l : Lane) (s : State) : (completionWritten l s).engine = s.engine := by
  unfold completionWritten
  dsimp only
  split
  · exact fetchCheck_engine _ _
  · split
    · exact (fetchCheck_engine _ _).trans (reportAbort_engine _ _ _)
    · exact beginFetch_engine _ _

@[simp] theorem writerServed_engine (w : Writer) (s : State) : (writerServed w s).engine = s.engine := by
  cases w with
  | commandUnit => exact adminFetchCheck_engine _
  | sequencer l => exact completionWritten_engine l s
  | outbox l => exact leaveOutbox_engine l s

end Sys2Proof.Machine
end

section
/-! The part while the engine is not RUNNING (R167, R169, R175): every block is as an engine stop leaves it, and every
step keeps it so until ENABLE. -/

namespace Sys2Proof.Machine

/-! ## Quiet -/

/-- Every block is as an engine stop leaves it, and no request waits at the bus port (R169, R175). -/
structure Quiet (s : State) : Prop where
  lanes : ∀ l, (s.lane l).stopped = s.lane l
  admin : s.admin = CommandUnit.reset
  captureList : s.captureList = []
  heldCount : s.heldCount = 0
  writer : s.writer = EventWriter.reset
  queues : ∀ q, (s.eq q).stopped = s.eq q
  clients : ∀ c, (s.busSlot c).notPending = true

theorem EventQueue.stopped_eq_self_iff {q : EventQueue} :
    q.stopped = q ↔ q.state = .absent ∧ q.unread = 0 ∧ q.flag = false ∧ q.holdoffDue = none := by
  cases q
  simp [EventQueue.stopped, eq_comm]

theorem quietUnlessRunning_iff {s : State} : QuietUnlessRunning s ↔ (s.engine ≠ .running → Quiet s) := by
  refine forall_congr' fun _ => ?_
  simp only [← EventQueue.stopped_eq_self_iff]
  exact ⟨fun ⟨hlanes, hadmin, hlist, hheld, hwriter, hqueues, hclients⟩ =>
      ⟨hlanes, hadmin, hlist, hheld, hwriter, hqueues, hclients⟩,
    fun h => ⟨h.lanes, h.admin, h.captureList, h.heldCount, h.writer, h.queues, h.clients⟩⟩

theorem Quiet.unlessRunning {s : State} (h : Quiet s) : QuietUnlessRunning s := quietUnlessRunning_iff.mpr fun _ => h

theorem quietUnlessRunning_of_running {s : State} (h : s.engine = .running) : QuietUnlessRunning s :=
  fun hnot => absurd h hnot

namespace Quiet

variable {s : State}

/-- Whatever is read of a lane is what an engine stop leaves there. -/
theorem lane_read (h : Quiet s) (l : Lane) {α : Type} (f : LaneState → α) : f (s.lane l) = f (s.lane l).stopped := by
  rw [h.lanes]

theorem filter (h : Quiet s) (l : Lane) : (s.lane l).filter = none := h.lane_read l LaneState.filter

theorem press (h : Quiet s) (l : Lane) : (s.lane l).press = none := h.lane_read l LaneState.press

theorem gateDue (h : Quiet s) (l : Lane) : (s.lane l).gateDue = none := h.lane_read l LaneState.gateDue

theorem echoDue (h : Quiet s) (l : Lane) : (s.lane l).echoDue = none := h.lane_read l LaneState.echoDue

theorem tx (h : Quiet s) (l : Lane) : (s.lane l).tx = none := h.lane_read l LaneState.tx

theorem seq (h : Quiet s) (l : Lane) : (s.lane l).seq = Sequencer.reset := h.lane_read l LaneState.seq

theorem queue (h : Quiet s) (l : Lane) : (s.lane l).queue = RequestQueue.absent := h.lane_read l LaneState.queue

theorem absent (h : Quiet s) (q : EqId) : (s.eq q).state = .absent := (EventQueue.stopped_eq_self_iff.mp (h.queues q)).1

theorem holdoffDue (h : Quiet s) (q : EqId) : (s.eq q).holdoffDue = none :=
  (EventQueue.stopped_eq_self_iff.mp (h.queues q)).2.2.2

end Quiet

/-! ## What leads to a quiet part -/

theorem BusSlot.notPending_dropPending (x : BusSlot) : x.dropPending.notPending = true := by
  cases x <;> rfl

theorem quiet_stopBlocks (s : State) : Quiet (stopBlocks s) where
  lanes l := by
    rw [show (stopBlocks s).lane l = (s.lane l).stopped by simp [stopBlocks]]
    rfl
  admin := rfl
  captureList := rfl
  heldCount := rfl
  writer := rfl
  queues q := by
    rw [stopBlocks_eq]
    rfl
  clients c := by
    rw [stopBlocks_busSlot]
    exact BusSlot.notPending_dropPending _

/-- Every block has its reset values, lanes but for their pins (R171). -/
theorem quiet_of_reset {s : State} (hlanes : ∀ l, ∃ x : LaneState, s.lane l = x.engineReset)
    (heqs : ∀ q, s.eq q = EventQueue.reset) (hadmin : s.admin = CommandUnit.reset) (hlist : s.captureList = [])
    (hheld : s.heldCount = 0) (hwriter : s.writer = EventWriter.reset)
    (hclients : ∀ c, (s.busSlot c).notPending = true) : Quiet s where
  lanes l := by
    obtain ⟨x, hx⟩ := hlanes l
    rw [hx]
    rfl
  admin := hadmin
  captureList := hlist
  heldCount := hheld
  writer := hwriter
  queues q := by
    rw [heqs]
    rfl
  clients := hclients

theorem quiet_resetBlocks (s : State) : Quiet (resetBlocks s) :=
  quiet_of_reset (fun l => ⟨s.lane l, by simp [resetBlocks]⟩) (fun q => by simp [resetBlocks, State.reset]) rfl rfl rfl
    rfl fun c => by
      rw [resetBlocks_busSlot]
      exact BusSlot.notPending_dropPending _

theorem quiet_powerOn (s : State) : Quiet (powerOn s) :=
  quiet_of_reset (fun l => ⟨s.lane l, by simp [powerOn]⟩) (fun q => by simp [powerOn, State.reset]) rfl rfl rfl rfl
    fun c => by rw [show (powerOn s).busSlot c = .idle from reset_busSlot c]; rfl

/-- Reaching OFF clears nothing but faults (R170). -/
theorem quiet_settleStopping {s : State} (h : Quiet s) : Quiet (settleStopping s) := by
  unfold settleStopping
  split
  · exact h
  · exact { h with
      queues := fun q => by
        rw [show (reachOff s).eq q = { s.eq q with fault := false } by simp [reachOff]]
        exact congrArg (fun x : EventQueue => { x with fault := false }) (h.queues q) }

theorem quiet_setBus {s : State} (h : Quiet s) (c : BusClient) {x : BusSlot} (hx : x.notPending = true) :
    Quiet (s.setBus c x) :=
  { h with
    clients := fun c' => by
      rw [State.setBus_busSlot]
      split
      · exact hx
      · exact h.clients c' }

/-! ## Operations of the running part -/

theorem quiet_chooseEvent {s : State} (h : QuietUnlessRunning s) : QuietUnlessRunning (chooseEvent s) := by
  by_cases hrun : s.engine = .running
  · exact quietUnlessRunning_of_running ((chooseEvent_engine s).trans hrun)
  · rw [chooseEvent_of_not_running hrun]
    exact h

/-- An operation that leaves the engine's state, and a quiet part as it is. -/
theorem quiet_of_unmoved {s t : State} (h : QuietUnlessRunning s) (hengine : t.engine = s.engine)
    (hrest : Quiet s → t = s) : QuietUnlessRunning t := by
  by_cases hrun : s.engine = .running
  · exact quietUnlessRunning_of_running (hengine.trans hrun)
  · rw [hrest (quietUnlessRunning_iff.mp h hrun)]
    exact h

/-- The end of a transaction acts in RUNNING alone, and in STOPPING frees its place (R170). -/
theorem quiet_endTransaction {s : State} {c : BusClient} {wanted : Purpose → Bool} {act : Transaction → State → State}
    (h : QuietUnlessRunning s) (hact : ∀ t u, (act t u).engine = u.engine) :
    QuietUnlessRunning (endTransaction c wanted act s) := by
  rcases endTransaction_cases c wanted act s with ⟨t, -, -, ⟨hrun, hend⟩ | ⟨hstopping, hend⟩⟩ | hend <;> rw [hend]
  · exact quietUnlessRunning_of_running ((hact t _).trans hrun)
  · have hquiet : Quiet s := quietUnlessRunning_iff.mp h (by rw [hstopping]; exact nofun)
    exact (quiet_settleStopping (quiet_setBus hquiet c rfl)).unlessRunning
  · exact h

theorem quiet_takeCommand {s : State} {act : State → State} (h : QuietUnlessRunning s)
    (hact : ∀ u, (act u).engine = u.engine) : QuietUnlessRunning (takeCommand act s) :=
  quiet_endTransaction h fun _ u => (chooseEvent_engine _).trans ((hact _).trans (advanceAdmin_engine u))

theorem quiet_takeChecked {s : State} {act : State → State} (h : QuietUnlessRunning s) (tag : Half)
    (checks : List (Nat × Bool)) (hact : ∀ u, (act u).engine = u.engine) :
    QuietUnlessRunning (takeCommand (checked tag checks act) s) :=
  quiet_takeCommand h (checked_engine hact tag checks)

/-- A happening of a lane, with the event writer's choice after it, that does not come about in a quiet part. -/
theorem quiet_lane {s t : State} {l : Lane} (h : QuietUnlessRunning s) (hlane : OnlyLane l s t)
    (hrest : Quiet s → t = s) : QuietUnlessRunning (chooseEvent t) :=
  quiet_chooseEvent (quiet_of_unmoved h hlane.engine hrest)

theorem quiet_startTransaction {s : State} (hrun : s.engine = .running) : QuietUnlessRunning (startTransaction s) := by
  refine quietUnlessRunning_of_running ?_
  rcases startTransaction_cases s with ⟨i, t, -, -, hstart⟩ | hstart <;> rw [hstart] <;> exact hrun

/-! ## A quiet lane -/

section
variable {s : State} (h : Quiet s) (l : Lane)
include h

theorem confirmHeld_of_quiet : confirmHeld l s = s :=
  confirmHeld_of_not_held (by unfold LaneState.heldExcursion; rw [h.filter])

theorem crossingsNow_of_quiet : crossingsNow l s = s := by
  unfold crossingsNow
  rw [h.filter]

theorem activationTaken_of_quiet : activationTaken l s = s := by
  unfold activationTaken
  rw [h.seq]
  rfl

theorem transmissionEnds_of_quiet : transmissionEnds l s = s := by
  unfold transmissionEnds
  dsimp only
  rw [h.tx]

theorem spacingExpires_of_quiet : spacingExpires l s = s := by
  unfold spacingExpires
  rw [h.seq]
  rfl

theorem deferExpires_of_quiet : deferExpires l s = s := by
  unfold deferExpires
  rw [h.seq]
  rfl

theorem holdLimitExpires_of_quiet : holdLimitExpires l s = s := by
  unfold holdLimitExpires
  rw [h.seq]
  rfl

theorem replyExpires_of_quiet : replyExpires l s = s := by
  unfold replyExpires
  rw [h.seq]
  rfl

/-- The pin comes from outside: a change of its level is kept, and begins nothing (R169). -/
theorem quiet_takePinEdge (high : Bool) : Quiet (takePinEdge l high s) := by
  by_cases hsame : (s.lane l).pinHigh = high
  · rw [takePinEdge_same hsame]
    exact h
  · rw [takePinEdge_stopped hsame (h.filter l)]
    exact { h with
      lanes := fun l' => by
        rw [State.setLane_lane]
        split
        · exact congrArg (fun x : LaneState => { x with pinHigh := high }) (h.lanes l)
        · exact h.lanes l' }

end

/-! ## Register writes -/

theorem quiet_writeControl {s : State} (h : QuietUnlessRunning s) (word : Word) :
    QuietUnlessRunning (writeControl word s) := by
  unfold writeControl
  split
  · exact (quiet_settleStopping (quiet_resetBlocks s)).unlessRunning
  · have hirq : QuietUnlessRunning { s with irqEnable := word.getLsbD 2 } := h
    dsimp only
    split
    · unfold enableEngine
      split
      · exact quietUnlessRunning_of_running rfl
      · exact h
    · exact (quiet_settleStopping (quiet_stopBlocks _)).unlessRunning
    all_goals exact hirq

theorem quiet_writeStatus {s : State} (h : QuietUnlessRunning s) (word : Word) :
    QuietUnlessRunning (writeStatus word s) := h

theorem quiet_writeAdminBase {s : State} (h : QuietUnlessRunning s) (word : Word) :
    QuietUnlessRunning (writeAdminBase word s) := by
  unfold writeAdminBase
  split <;> exact h

theorem noticeRequestQueue_engine {l : Lane} {tail : Nat} {s t : State} (h : noticeRequestQueue l tail s = some t) :
    t.engine = s.engine := (onlyLane_noticeRequestQueue h).engine

theorem noticeAdminQueue_engine {tail : Nat} {s t : State} (h : noticeAdminQueue tail s = some t) :
    t.engine = s.engine := by
  cases hq : s.admin.queue with
  | none =>
    rw [noticeAdminQueue_of_none hq] at h
    cases h
  | some q =>
    rw [noticeAdminQueue_of_some hq, Option.ite_none_right_eq_some] at h
    rw [← Option.some.inj h.2]
    exact adminFetchCheck_engine _

/-- A notice that its owner takes leaves the engine's state, and a quiet part refuses every notice (R165). -/
theorem quiet_notice {s : State} {notice : Option State} (h : QuietUnlessRunning s)
    (htaken : ∀ t, notice = some t → t.engine = s.engine) (hrest : Quiet s → notice = none) :
    QuietUnlessRunning (notice.getD { s with submitError := true }) := by
  cases notice with
  | none => exact h
  | some t => exact quiet_of_unmoved h (htaken t rfl) fun hquiet => nomatch hrest hquiet

theorem quiet_writeSubmit {s : State} (h : QuietUnlessRunning s) (word : Word) :
    QuietUnlessRunning (writeSubmit word s) := by
  by_cases hlane : word.toNat % 8 < 4
  · rw [writeSubmit_of_lane (l := ⟨_, hlane⟩) rfl]
    exact quiet_notice h (fun t => noticeRequestQueue_engine) fun hquiet =>
      noticeRequestQueue_refused (.inl (by rw [hquiet.queue]; rfl))
  · by_cases hadmin : word.toNat % 8 = 4
    · rw [writeSubmit_of_admin hadmin]
      exact quiet_notice h (fun t => noticeAdminQueue_engine) fun hquiet =>
        noticeAdminQueue_of_none (by rw [hquiet.admin]; rfl) _
    · rw [writeSubmit_of_no_queue (by omega)]
      exact h

theorem quiet_acknowledge {s : State} (h : QuietUnlessRunning s) (word : Word) :
    QuietUnlessRunning (acknowledge word s) := by
  unfold acknowledge
  dsimp only
  split
  · split
    · exact h
    · rename_i hid d hd
      refine quiet_chooseEvent (quiet_of_unmoved h rfl fun hquiet => ?_)
      rw [EventQueue.acknowledges_absent (hquiet.absent _)] at hd
      cases hd
  · exact h

theorem quiet_hostWrite {s : State} (h : QuietUnlessRunning s) (offset width : Nat) (word : Word) :
    QuietUnlessRunning (hostWrite offset width word s) := by
  unfold hostWrite
  split
  · split
    · exact quiet_writeControl h word
    · exact quiet_writeStatus h word
    · exact quiet_writeAdminBase h word
    · exact quiet_writeSubmit h word
    · exact quiet_acknowledge h word
    · exact h
  · exact h

/-! ## Ends of transactions -/

theorem quiet_captureWriteEnds {s : State} (h : QuietUnlessRunning s) (l : Lane) (busError : Bool) :
    QuietUnlessRunning (captureWriteEnds l busError s) := by
  refine quiet_endTransaction h fun t u => ?_
  split
  · rfl
  · split
    · exact askBus_engine _ _ _
    · exact (onlyLane_enterOutbox l _ _).engine

theorem quiet_listReadEnds {s : State} (h : QuietUnlessRunning s) (l : Lane) (pairs : Option (List RawPair)) :
    QuietUnlessRunning (listReadEnds l pairs s) := by
  unfold listReadEnds
  dsimp only
  split
  · split
    · exact quiet_endTransaction h fun _ u => (onlyLane_listArrives l _ _ u).engine
    · exact h
  · exact quiet_endTransaction h fun _ u => (onlyLane_finish l _ _ _ u).engine
  · exact quiet_endTransaction h fun _ u => askBus_engine _ _ _
  · exact quiet_endTransaction h fun _ u => rfl

theorem quiet_eventWritten {s : State} (h : QuietUnlessRunning s) : QuietUnlessRunning (eventWritten s) := by
  refine quiet_endTransaction h fun _ u => ?_
  split
  · rfl
  · exact (chooseEvent_engine _).trans (writerServed_engine _ _)

theorem quiet_eventFailed {s : State} (h : QuietUnlessRunning s) : QuietUnlessRunning (eventFailed s) := by
  refine quiet_endTransaction h fun _ u => ?_
  dsimp only
  split
  · rfl
  · rename_i w q _
    refine (chooseEvent_engine _).trans ?_
    cases w with
    | commandUnit => rfl
    | sequencer l => rfl
    | outbox l => exact dropSettling_engine l _

/-! ## Steps -/

/-- Every command leaves the part quiet while the engine is not RUNNING. -/
theorem quiet_exec {s t : State} {c : Instr} (h : QuietUnlessRunning s) (hexec : exec c s = .next t) :
    QuietUnlessRunning t := by
  cases c <;> cases hexec
  case powerOnReset => exact (quiet_powerOn s).unlessRunning
  case engineReset word => exact quiet_writeControl h word
  case enable word => exact quiet_writeControl h word
  case engineStop word => exact quiet_writeControl h word
  case irqEnableWrite word => exact quiet_writeControl h word
  case submitErrorClear word => exact quiet_writeStatus h word
  case ackErrorClear word => exact quiet_writeStatus h word
  case adminFaultClear word => exact quiet_writeStatus h word
  case adminBaseWrite word => exact quiet_writeAdminBase h word
  case submit word => exact quiet_writeSubmit h word
  case eventAck word => exact quiet_acknowledge h word
  case clearNotice word => exact quiet_acknowledge h word
  case registerWriteIgnored offset width word => exact quiet_hostWrite h offset width word
  case busGrant =>
    split
    · exact quiet_startTransaction ‹_›
    all_goals exact h
  case stoppingTransactionEnd client busError =>
    split
    · exact quiet_endTransaction h fun _ _ => rfl
    all_goals exact h
  case adminReadError => exact quiet_endTransaction h fun _ _ => rfl
  case unknownCommand command tag =>
    split
    · exact h
    · exact quiet_takeCommand h (postDone_engine _ _ _ _)
  case nop tag => exact quiet_takeCommand h (postDone_engine _ _ _ _)
  case setEventQueue tag a =>
    exact quiet_takeChecked h _ _ fun _ => decided_engine (fun _ => claimEventQueue_engine) _ _
  case setRequestQueue tag a =>
    exact quiet_takeChecked h _ _ fun _ =>
      decided_engine (fun _ hclaim => (onlyLane_claimRequestQueue hclaim).engine) _ _
  case loadProfile tag slot address => exact quiet_takeChecked h _ _ (beginLoad_engine tag slot address)
  case profileRecordReadEnd record =>
    refine quiet_endTransaction h fun _ _ => ?_
    split
    · exact (chooseEvent_engine _).trans (endLoad_engine _ _ _ _)
    · rfl
  case clearProfile tag slot => exact quiet_takeChecked h _ _ (clearSlot_engine tag slot)
  case loadFilter tag a => exact quiet_takeChecked h _ _ fun _ => rfl
  case setLane tag a => exact quiet_takeChecked h _ _ (setLaneChecked_engine tag a)
  case abortLane tag l scope => exact quiet_takeChecked h _ _ (abortLane_engine _ _ _ _)
  case resetLane tag l => exact quiet_takeChecked h _ _ (abortLane_engine _ _ _ _)
  case release tag l holdTag =>
    exact quiet_takeChecked h _ _ fun _ => decided_engine (fun _ hends => (onlyLane_releaseHold hends).engine) _ _
  case postCaptureBuffer tag address =>
    exact quiet_takeChecked h _ _ fun _ => decided_engine (fun _ => postBuffer_engine) _ _
  case readCounters tag a => exact quiet_takeChecked h _ _ (beginCounters_engine tag a)
  case counterBlockWriteEnd busError =>
    refine quiet_endTransaction h fun _ _ => ?_
    split
    · exact (chooseEvent_engine _).trans (endCounters_engine _ _ _ _ _)
    · rfl
  case pinEdge l high =>
    refine quiet_chooseEvent ?_
    by_cases hrun : s.engine = .running
    · exact quietUnlessRunning_of_running ((onlyLane_takePinEdge l high s).engine.trans hrun)
    · exact (quiet_takePinEdge (quietUnlessRunning_iff.mp h hrun) l high).unlessRunning
  case transitionConfirm l => exact quiet_lane h (onlyLane_confirmHeld l s) fun hq => confirmHeld_of_quiet hq l
  case thresholdCrossing l => exact quiet_lane h (onlyLane_crossingsNow l s) fun hq => crossingsNow_of_quiet hq l
  case captureWriteEnd l busError => exact quiet_chooseEvent (quiet_captureWriteEnds h l busError)
  case repeatWindowExpiry l =>
    split
    · exact h
    · rename_i p hp
      split
      · exact quiet_lane h (onlyLane_closePress l s) fun hq => nomatch hp.symm.trans (hq.press l)
      · exact h
  case gateWindowExpiry l =>
    split
    · rename_i hdue
      exact quiet_of_unmoved h rfl fun hq => by rw [hq.gateDue] at hdue; cases hdue
    · exact h
  case echoGuardExpiry l =>
    split
    · rename_i hdue
      exact quiet_lane h (onlyLane_withdrawBlind l s) fun hq => by rw [hq.echoDue] at hdue; cases hdue
    · exact h
  case requestEntryReadEnd l e =>
    exact quiet_chooseEvent (quiet_endTransaction h fun _ u => (onlyLane_takeEntry l e u).engine)
  case requestReadError l => exact quiet_chooseEvent (quiet_endTransaction h fun _ _ => rfl)
  case activation l => exact quiet_lane h (onlyLane_activationTaken l s) fun hq => activationTaken_of_quiet hq l
  case pairListReadEnd l pairs => exact quiet_chooseEvent (quiet_listReadEnds h l pairs)
  case spacingTimerExpiry l =>
    exact quiet_of_unmoved h (onlyLane_spacingExpires l s).engine fun hq => spacingExpires_of_quiet hq l
  case transmissionEnd l => exact quiet_lane h (onlyLane_transmissionEnds l s) fun hq => transmissionEnds_of_quiet hq l
  case deferTimerExpiry l => exact quiet_lane h (onlyLane_deferExpires l s) fun hq => deferExpires_of_quiet hq l
  case holdLimitExpiry l => exact quiet_lane h (onlyLane_holdLimitExpires l s) fun hq => holdLimitExpires_of_quiet hq l
  case replyWindowExpiry l => exact quiet_lane h (onlyLane_replyExpires l s) fun hq => replyExpires_of_quiet hq l
  case eventWriteEnd => exact quiet_eventWritten h
  case eventWriteError => exact quiet_eventFailed h
  case holdoffExpiry q =>
    split
    · rename_i hdue
      exact quiet_of_unmoved h rfl fun hq => by rw [hq.holdoffDue] at hdue; cases hdue
    · exact h

/-- Settles O59: a command in RUNNING leaves the engine RUNNING, or stops or resets every block; outside RUNNING every
command but ENABLE finds nothing to act on. -/
theorem quietKeptByEveryStep : Obligations.QuietKeptByEveryStep := by
  intro s t h hstep
  rcases step_cases hstep with ⟨c, rest, hexec⟩ | rfl
  · exact quiet_exec (s := { s with pending := rest }) h hexec
  · rw [tick_eq]
    exact h

end Sys2Proof.Machine
end


section
/-! Register reads (R160, R161, R179): the registers as numbers, and the bytes that a read of any width finds. -/

namespace Sys2Proof.Machine

/-! ## Joined words as numbers -/

/-- The number of two words joined, the low one last. -/
theorem toNat_append_eq {v w : Nat} (hi : BitVec w) (lo : BitVec v) :
    (hi ++ lo).toNat = lo.toNat + 2 ^ v * hi.toNat := by
  rw [BitVec.toNat_append, ← Nat.shiftLeft_add_eq_or_of_lt lo.isLt, Nat.shiftLeft_eq, Nat.mul_comm, Nat.add_comm]

/-- The number of a single bit. -/
theorem toNat_ofBool_eq (b : Bool) : (BitVec.ofBool b).toNat = if b then 1 else 0 := by
  cases b <;> rfl

/-! ## The registers -/

variable (s : State)

/-- CONTROL as a number (R162, R179). -/
theorem control_toNat :
    s.control.toNat = (if s.engine == .running then 1 else 0) + 4 * (if s.irqEnable then 1 else 0) := by
  have henabled : s.enabled = (s.engine == .running) := by
    unfold State.enabled
    cases s.engine <;> rfl
  simp only [State.control, toNat_append_eq, toNat_ofBool_eq, henabled, BitVec.ofNat_eq_ofNat, BitVec.toNat_ofNat,
    Nat.zero_mod]
  omega

/-- STATUS as a number (R163, R179). -/
theorem status_toNat :
    s.status.toNat =
      s.engine.code.toNat + 4 * (if s.adminFault then 1 else 0) + 8 * (if s.submitError then 1 else 0) +
        16 * (if s.ackError then 1 else 0) + 256 * s.requestFlags.toNat + 4096 * s.faultBits.toNat := by
  simp only [State.status, toNat_append_eq, toNat_ofBool_eq, BitVec.ofNat_eq_ofNat, BitVec.toNat_ofNat, Nat.zero_mod]
  omega

/-- Four bits, one for each event queue, as a number. -/
theorem fourBits_toNat (b3 b2 b1 b0 : Bool) :
    (BitVec.ofBool b3 ++ BitVec.ofBool b2 ++ BitVec.ofBool b1 ++ BitVec.ofBool b0).toNat =
      (if b0 then 1 else 0) + 2 * (if b1 then 1 else 0) + 4 * (if b2 then 1 else 0) + 8 * (if b3 then 1 else 0) := by
  simp only [toNat_append_eq, toNat_ofBool_eq]
  omega

/-! ## Bytes of a read -/

/-- The bytes of a word, low byte first. -/
theorem wordBytes_getElem? (x : Word) {k : Nat} (h : k < 4) :
    (wordBytes x)[k]? = some (x.extractLsb' (8 * k) 8) := by
  have hbytes : wordBytes x = (List.range 4).map fun k => x.extractLsb' (8 * k) 8 := by
    simp only [wordBytes, halfBytes, List.range, List.range.loop, List.map, List.cons_append, List.nil_append,
      List.cons.injEq, and_true]
    refine ⟨?_, ?_, ?_, ?_⟩
    all_goals
      refine BitVec.eq_of_getLsbD_eq fun i hi => ?_
      have hhigh : 8 + i < 16 := by omega
      simp [hi, hhigh, ← Nat.add_assoc]
  rw [hbytes, List.getElem?_map, List.getElem?_range h]
  rfl

/-- A byte inside the window is its register's (R160). -/
theorem registerByte_eq {offset : Nat} (h : offset < 0x1C) :
    some (s.registerByte offset) = (wordBytes (s.register (offset / 4 * 4)))[offset % 4]? := by
  rw [wordBytes_getElem? _ (Nat.mod_lt _ (by decide)), State.registerByte, if_pos (Nat.le_of_lt_succ h)]

/-- A byte beyond the window reads 0 (R160 (4)). -/
theorem registerByte_of_beyond {offset : Nat} (h : 0x1C ≤ offset) : s.registerByte offset = 0 :=
  if_neg (Nat.not_le.mpr h)

theorem readBytes_length (offset width : Nat) : (s.readBytes offset width).length = width :=
  List.length_map _ |>.trans List.length_range

theorem readBytes_of_misaligned {offset : Nat} (h : offset % 4 ≠ 0) : s.readBytes offset 4 = [0, 0, 0, 0] :=
  List.map_congr_left (l := List.range 4) (g := fun _ => 0) fun _ _ => if_pos ⟨rfl, h⟩

/-- A read that is not a misaligned one of 32 bits gives the bytes it addresses (R160). -/
theorem readBytes_of_addressed {offset width : Nat} (h : width = 4 → offset % 4 = 0) :
    s.readBytes offset width = (List.range width).map fun i => s.registerByte (offset + i) := by
  have hread : ¬ (width = 4 ∧ offset % 4 ≠ 0) := fun ⟨hw, hoff⟩ => hoff (h hw)
  simp only [State.readBytes, if_neg hread]

/-- Byte `i` of a read inside the window. -/
theorem readBytes_getElem? {offset width i : Nat} (h : width = 4 → offset % 4 = 0) (hi : i < width)
    (hin : offset + width ≤ 0x1C) :
    (s.readBytes offset width)[i]? =
      (wordBytes (s.register ((offset + i) / 4 * 4)))[(offset + i) % 4]? := by
  rw [readBytes_of_addressed s h, List.getElem?_map, List.getElem?_range hi, ← registerByte_eq s (by omega)]
  rfl

/-- An aligned read of 32 bits gives its register's bytes. -/
theorem readBytes_of_aligned {offset : Nat} (h : offset % 4 = 0) (hin : offset ≤ 0x18) :
    s.readBytes offset 4 = wordBytes (s.register offset) := by
  refine List.ext_getElem? fun i => ?_
  by_cases hi : i < 4
  · have hregister : (offset + i) / 4 * 4 = offset := by omega
    have hbyte : (offset + i) % 4 = i := by omega
    rw [readBytes_getElem? s (fun _ => h) hi (by omega), hregister, hbyte]
  · rw [List.getElem?_eq_none (by rw [readBytes_length]; omega),
      List.getElem?_eq_none (by rw [wordBytes_length]; omega)]

/-- A read beyond the window gives 0, whether it is aligned or not (R160 (4)). -/
theorem readBytes_of_beyond {offset : Nat} (h : 0x1C ≤ offset) (width : Nat) :
    s.readBytes offset width = List.replicate width 0 := by
  refine List.eq_replicate_iff.mpr ⟨readBytes_length s offset width, fun b hb => ?_⟩
  obtain ⟨i, -, rfl⟩ := List.mem_map.mp hb
  split
  · rfl
  · exact registerByte_of_beyond s (Nat.le_add_right_of_le h)

/-- Settles O13: the registers as numbers, and the bytes of a read by where it lies. -/
theorem registerReadLayout : Obligations.RegisterReadLayout := by
  intro s one state
  refine ⟨rfl, control_toNat s, ?_, rfl, rfl, rfl, BitVec.toNat_ofNat .., fun offset => readBytes_of_aligned s,
    fun offset width h => readBytes_of_beyond s h width, fun offset => readBytes_of_misaligned s,
    fun offset width i hi hw hin => readBytes_getElem? s (fun h4 => by omega) hi hin⟩
  have hstate : s.engine.code.toNat = state := by
    dsimp only [state]
    cases s.engine <;> rfl
  show s.status.toNat = _
  rw [status_toNat, hstate, State.requestFlags, State.faultBits, fourBits_toNat, fourBits_toNat]
  dsimp only [one]
  omega

end Sys2Proof.Machine
end

section
/-! Records the host writes (R177, 10.2.1 to 10.2.4): each field as a number of its bytes, and each field found behind
the fields that its record's layout writes before it. -/

namespace Sys2Proof.Machine

/-! ## Fields as numbers of their bytes -/

/-- Two words joined, as the word of their number. -/
theorem append_eq_ofNat {v w : Nat} (hi : BitVec w) (lo : BitVec v) :
    hi ++ lo = BitVec.ofNat (w + v) (lo.toNat + 2 ^ v * hi.toNat) :=
  BitVec.eq_of_toNat_eq (by rw [BitVec.toNat_ofNat, ← toNat_append_eq, Nat.mod_eq_of_lt (hi ++ lo).isLt])

variable (e : List Byte) (i : Nat)

/-- The number in bytes `i` and `i + 1`, low byte first. -/
def twoAt : Nat := (byteAt e i).toNat + 256 * (byteAt e (i + 1)).toNat

/-- The number in the four bytes from `i`. -/
def fourAt : Nat := twoAt e i + 65536 * twoAt e (i + 2)

/-- The number in the eight bytes from `i`. -/
def eightAt : Nat := fourAt e i + 2 ^ 32 * fourAt e (i + 4)

theorem halfAt_toNat : (halfAt e i).toNat = twoAt e i := toNat_append_eq ..

theorem wordAt_toNat : (wordAt e i).toNat = fourAt e i := by
  rw [wordAt, toNat_append_eq, halfAt_toNat, halfAt_toNat]
  rfl

theorem maskAt_toNat : (maskAt e i).toNat = eightAt e i := by
  rw [maskAt, toNat_append_eq, wordAt_toNat, wordAt_toNat]
  rfl

theorem halfAt_eq_ofNat : halfAt e i = BitVec.ofNat 16 (twoAt e i) := append_eq_ofNat ..

theorem wordAt_eq_ofNat : wordAt e i = BitVec.ofNat 32 (fourAt e i) := by
  rw [wordAt, append_eq_ofNat, halfAt_toNat, halfAt_toNat]
  rfl

theorem maskAt_eq_ofNat : maskAt e i = BitVec.ofNat 64 (eightAt e i) := by
  rw [maskAt, append_eq_ofNat, wordAt_toNat, wordAt_toNat]
  rfl

theorem payloadAt_eq_ofNat : payloadAt e i = BitVec.ofNat 128 (eightAt e i + 2 ^ 64 * eightAt e (i + 8)) := by
  rw [payloadAt, append_eq_ofNat, maskAt_toNat, maskAt_toNat]

/-! ## Pairs -/

theorem halfAt_drop (k : Nat) : halfAt (e.drop k) i = halfAt e (k + i) := by
  simp only [halfAt, byteAt, List.getD_eq_getElem?_getD, List.getElem?_drop, Nat.add_assoc]

theorem decodePairs_length (n : Nat) : (decodePairs e n).length = n := by
  induction n generalizing e with
  | zero => rfl
  | succ n ih => exact congrArg (· + 1) (ih (e.drop 4))

/-- Pair `i` lies at byte 4 × i (10.2.4). -/
theorem decodePairs_getElem? {i n : Nat} (h : i < n) :
    (decodePairs e n)[i]? = some { mark := halfAt e (4 * i), space := halfAt e (4 * i + 2) } := by
  induction n generalizing e i with
  | zero => exact absurd h (Nat.not_lt_zero i)
  | succ n ih =>
    cases i with
    | zero => rfl
    | succ i =>
      have hmark : 4 + 4 * i = 4 * (i + 1) := by omega
      have hspace : 4 + (4 * i + 2) = 4 * (i + 1) + 2 := by omega
      rw [decodePairs, List.getElem?_cons_succ, ih (e.drop 4) (Nat.lt_of_succ_lt_succ h), halfAt_drop, halfAt_drop,
        hmark, hspace]

theorem encodePairs_length (pairs : List RawPair) : (encodePairs pairs).length = 4 * pairs.length := by
  induction pairs with
  | nil => rfl
  | cons p rest ih =>
    rw [encodePairs, List.flatMap_cons, List.length_append, ← encodePairs, ih, List.length_cons]
    simp only [List.length_append, halfBytes_length]
    omega

theorem decodePairs_encodePairs (pairs : List RawPair) : decodePairs (encodePairs pairs) pairs.length = pairs := by
  induction pairs with
  | nil => rfl
  | cons p rest ih =>
    have hbytes : encodePairs (p :: rest) = halfBytes p.mark ++ (halfBytes p.space ++ encodePairs rest) :=
      List.append_assoc ..
    have hmark : halfAt (encodePairs (p :: rest)) 0 = p.mark := by rw [hbytes, halfAt_halfBytes]
    have hspace : halfAt (encodePairs (p :: rest)) 2 = p.space := by
      rw [hbytes]
      exact (halfAt_append_add (halfBytes p.mark) _ 0).trans (halfAt_halfBytes ..)
    have hrest : (encodePairs (p :: rest)).drop 4 = encodePairs rest := by
      rw [hbytes]
      rfl
    rw [List.length_cons, decodePairs, hmark, hspace, hrest, ih]

/-! ## Fields behind other fields

A reader passes over a part that ends at or before its offset, and over a byte. The first is asked for last, and its
side condition is a comparison of literals once the part's length is evaluated. -/

section
variable {a b : List Byte} {i : Nat}

@[simp low] theorem byteAt_append_right (h : a.length ≤ i) : byteAt (a ++ b) i = byteAt b (i - a.length) := by
  rw [← byteAt_append_add a b, Nat.add_sub_of_le h]

@[simp] theorem byteAt_cons_succ (x : Byte) : byteAt (x :: b) (i + 1) = byteAt b i := by
  rw [Nat.add_comm]
  exact byteAt_append_add [x] b i

@[simp low] theorem halfAt_append_right (h : a.length ≤ i) : halfAt (a ++ b) i = halfAt b (i - a.length) := by
  rw [← halfAt_append_add a b, Nat.add_sub_of_le h]

@[simp] theorem halfAt_cons_succ (x : Byte) : halfAt (x :: b) (i + 1) = halfAt b i := by
  rw [Nat.add_comm]
  exact halfAt_append_add [x] b i

@[simp low] theorem wordAt_append_right (h : a.length ≤ i) : wordAt (a ++ b) i = wordAt b (i - a.length) := by
  rw [← wordAt_append_add a b, Nat.add_sub_of_le h]

@[simp] theorem wordAt_cons_succ (x : Byte) : wordAt (x :: b) (i + 1) = wordAt b i := by
  rw [Nat.add_comm]
  exact wordAt_append_add [x] b i

@[simp low] theorem maskAt_append_right (h : a.length ≤ i) : maskAt (a ++ b) i = maskAt b (i - a.length) := by
  rw [← maskAt_append_add a b, Nat.add_sub_of_le h]

@[simp] theorem maskAt_cons_succ (x : Byte) : maskAt (x :: b) (i + 1) = maskAt b i := by
  rw [Nat.add_comm]
  exact maskAt_append_add [x] b i

@[simp low] theorem payloadAt_append_right (h : a.length ≤ i) : payloadAt (a ++ b) i = payloadAt b (i - a.length) := by
  rw [← payloadAt_append_add a b, Nat.add_sub_of_le h]

@[simp] theorem payloadAt_cons_succ (x : Byte) : payloadAt (x :: b) (i + 1) = payloadAt b i := by
  rw [Nat.add_comm]
  exact payloadAt_append_add [x] b i

@[simp] theorem byteAt_cons_zero (x : Byte) : byteAt (x :: b) 0 = x := rfl

end

/-! ## Records read back

The layouts are opened by `delta`: the equation of so long a list of bytes is slow to state. -/

theorem encodeRequestEntry_length (r : RequestEntry) : (encodeRequestEntry r).length = 64 := by
  delta encodeRequestEntry
  simp

theorem decodeRequestEntry_encode (r : RequestEntry) : decodeRequestEntry (encodeRequestEntry r) = r := by
  delta encodeRequestEntry
  simp (disch := exact Nat.le_of_ble_eq_true rfl) [decodeRequestEntry]

theorem encodeProfileRecord_length (r : ProfileRecord) : (encodeProfileRecord r).length = 64 := by
  delta encodeProfileRecord
  simp

theorem decodeProfileRecord_encode (r : ProfileRecord) : decodeProfileRecord (encodeProfileRecord r) = r := by
  delta encodeProfileRecord
  simp (disch := exact Nat.le_of_ble_eq_true rfl) [decodeProfileRecord]

theorem code_of_not_known {command : Byte} (h : knownCommand command = false) :
    command.toNat = 0 ∨ 13 ≤ command.toNat := by
  simp only [knownCommand, Bool.and_eq_false_iff, decide_eq_false_iff_not] at h
  omega

/-- An entry whose code names none of the twelve commands is an unknown command (R141, R176). -/
theorem decodeAdminEntry_of_unknown {e : List Byte} (h : (byteAt e 0).toNat = 0 ∨ 13 ≤ (byteAt e 0).toNat) :
    decodeAdminEntry e = .unknownCommand (byteAt e 0) (halfAt e 2) := by
  unfold decodeAdminEntry
  dsimp only
  split
  case h_13 => rfl
  all_goals omega

/-- An admin command is read as itself from its layout: an unknown one by its code, each of the twelve by its fields
(10.2.2). -/
theorem decodeAdminEntry_encode {c : Instr} {bytes : List Byte} (hc : c.wellFormed = true)
    (h : encodeAdminEntry c = some bytes) : bytes.length = 64 ∧ decodeAdminEntry bytes = c := by
  cases c <;> cases h
  all_goals refine ⟨by simp [adminHead], ?_⟩
  case unknownCommand command tag =>
    have hcode : command.toNat = 0 ∨ 13 ≤ command.toNat := code_of_not_known (by simpa [Instr.wellFormed] using hc)
    rw [decodeAdminEntry_of_unknown (by simpa [adminHead] using hcode)]
    simp [adminHead]
  all_goals simp (disch := exact Nat.le_of_ble_eq_true rfl) [adminHead, decodeAdminEntry]

/-- Settles O54: the fields as numbers of their bytes, and the four layouts read back. -/
theorem recordsRoundTrip : Obligations.RecordsRoundTrip := by
  refine ⟨fun e => ?_, fun c bytes => decodeAdminEntry_encode,
    fun r => ⟨encodeRequestEntry_length r, decodeRequestEntry_encode r⟩,
    fun r => ⟨encodeProfileRecord_length r, decodeProfileRecord_encode r⟩,
    fun pairs => ⟨encodePairs_length pairs, decodePairs_encodePairs pairs⟩⟩
  intro b two four eight h w m command
  have hb : byteAt e = b := rfl
  have hh : halfAt e = h := funext (halfAt_eq_ofNat e)
  have hw : wordAt e = w := funext (wordAt_eq_ofNat e)
  have hm : maskAt e = m := funext (maskAt_eq_ofNat e)
  have hp : payloadAt e 8 = BitVec.ofNat 128 (eight 8 + 2 ^ 64 * eight 16) := payloadAt_eq_ofNat e 8
  refine ⟨?request, ?profile, ?_, ?_, ?_, ?_, ?_, ?_, ?_, ?_, ?_, ?_, ?_, ?_, ?unknown, ?pairs⟩
  case request => simp only [decodeRequestEntry, hb, hh, hw, hm, hp]
  case profile => simp only [decodeProfileRecord, hb, hh]
  case unknown => exact hh ▸ decodeAdminEntry_of_unknown
  case pairs => exact fun n => ⟨decodePairs_length e n, fun i hi => hh ▸ decodePairs_getElem? e hi⟩
  all_goals
    intro hcode
    simp only [decodeAdminEntry, hb, hcode, hh, hw, hm]

end Sys2Proof.Machine
end

section
/-! SET_LANE applied (R81, R82, R100, R151): the lane's settings from the command's fields, and the lane, the capture
list and the bus port after an accepted SET_LANE as one update of the state. -/

namespace Sys2Proof.Machine

open Sys2Proof.Claims

/-! ## The settings -/

/-- An on/off field in range names its setting (R176). -/
theorem isOn_code {code : Byte} (h : code.toNat ≤ 1) : [false, true][code.toNat]? = some (isOn code) := by
  unfold isOn
  obtain hcode | hcode : code.toNat = 0 ∨ code.toNat = 1 := by omega
  all_goals simp [hcode]

theorem laneMode_code {code : Byte} (h : code.toNat ≤ 4) :
    [LaneMode.disabled, .txOnly, .rxOnly, .shared, .split][code.toNat]? = some (laneMode code) := by
  unfold laneMode
  obtain hcode | hcode | hcode | hcode | hcode :
      code.toNat = 0 ∨ code.toNat = 1 ∨ code.toNat = 2 ∨ code.toNat = 3 ∨ code.toNat = 4 := by omega
  all_goals simp [hcode]

/-- The default action DELIVER has code 0 (R176). -/
theorem defaultAction_code {code : Byte} (h : code.toNat ≤ 1) :
    [true, false][code.toNat]? = some (code.toNat == 0) := by
  obtain hcode | hcode : code.toNat = 0 ∨ code.toNat = 1 := by omega
  all_goals simp [hcode]

theorem gateCommand_of_keep {code : Byte} (h : code.toNat = 0) : gateCommand code = .keep := by simp [gateCommand, h]

theorem gateCommand_of_open {code : Byte} (h : code.toNat = 1) : gateCommand code = .open_ := by simp [gateCommand, h]

theorem gateCommand_of_close {code : Byte} (h : code.toNat = 2) : gateCommand code = .close := by simp [gateCommand, h]

/-- The armed fields that the count reaches are in range, so the armed list is made of their values. -/
theorem armedList_values {a : LaneArgs} (hcount : a.armedCount.toNat ≤ 4)
    (h1 : 1 ≤ a.armedCount.toNat → a.armed1.toNat ≤ 15) (h2 : 2 ≤ a.armedCount.toNat → a.armed2.toNat ≤ 15)
    (h3 : 3 ≤ a.armedCount.toNat → a.armed3.toNat ≤ 15) (h4 : 4 ≤ a.armedCount.toNat → a.armed4.toNat ≤ 15) :
    (armedList a).map Fin.val =
      ([a.armed1, a.armed2, a.armed3, a.armed4].map BitVec.toNat).take a.armedCount.toNat := by
  have hslot {x : Byte} (h : x.toNat ≤ 15) : (toSlot x).val = x.toNat := Nat.mod_eq_of_lt (by omega)
  have hmember : ∀ x ∈ [a.armed1, a.armed2, a.armed3, a.armed4].take a.armedCount.toNat, x.toNat ≤ 15 := by
    obtain hn | hn | hn | hn | hn : a.armedCount.toNat = 0 ∨ a.armedCount.toNat = 1 ∨ a.armedCount.toNat = 2 ∨
        a.armedCount.toNat = 3 ∨ a.armedCount.toNat = 4 := by omega
    all_goals
      rw [hn] at h1 h2 h3 h4
      simp_all
  rw [armedList, List.map_map, ← List.map_take]
  exact List.map_congr_left fun x hx => hslot (hmember x hx)

/-- The settings of a SET_LANE whose fields are in range are its fields, by their codes (R37, R149, R176). -/
theorem laneSettings_fields {a : LaneArgs} (h : firstBad (laneChecks a) = none) :
    let new := laneSettings a
    [LaneMode.disabled, .txOnly, .rxOnly, .shared, .split][a.mode.toNat]? = some new.mode ∧
      [false, true][a.inputLevel.toNat]? = some new.inputHigh ∧
      [false, true][a.outputLevel.toNat]? = some new.outputHigh ∧ new.glitchWidth = a.glitchWidth.toNat ∧
      new.echoGuard = a.echoGuard.toNat ∧ new.deferLimit = a.deferLimit.toNat ∧
      new.settleSilence = a.settleSilence.toNat ∧ new.armed = armedList a ∧
      (armedList a).map Fin.val =
        ([a.armed1, a.armed2, a.armed3, a.armed4].map BitVec.toNat).take a.armedCount.toNat ∧
      [false, true][a.reportErrors.toNat]? = some new.reportErrors ∧
      [false, true][a.capture.toNat]? = some new.capture ∧
      [true, false][a.defaultAction.toNat]? = some new.defaultDeliver ∧ new.defaultEq.val = a.defaultEq.toNat ∧
      [false, true][a.guardMode.toNat]? = some new.guarded ∧ new.guardWindow = a.guardWindow.toNat := by
  obtain ⟨-, -, -, -, -, hranges, -⟩ := fieldRanges
  have hpass := (firstOut_none_iff (hranges a)).mp h
  simp only [List.forall_mem_cons] at hpass
  obtain ⟨-, hmode, hinput, houtput, -, -, hcount, h1, h2, h3, h4, herrors, hcapture, haction, heq, hguard, -⟩ := hpass
  exact ⟨laneMode_code hmode, isOn_code hinput, isOn_code houtput, rfl, rfl, rfl, rfl, rfl,
    armedList_values hcount h1 h2 h3 h4, isOn_code herrors, isOn_code hcapture, defaultAction_code haction,
    Nat.mod_eq_of_lt (Nat.lt_succ_of_le heq), isOn_code hguard, rfl⟩

/-! ## The press -/

/-- A lane whose outbox takes an event that is no CAPTURE, or counts its loss (R62). -/
def LaneState.entered (x : LaneState) (ev : RxEvent) : LaneState :=
  if x.outbox.events.length < 4 then
    { x with
      outbox := { x.outbox with lost := 0, events := x.outbox.events ++ [{ ev with lost := x.outbox.lost }] } }
  else
    { x with
      counters := x.counters.set LaneCounter.lostEvents.index.val
        (BitVec.ofNat 32 (min ((x.counter .lostEvents).toNat + 1) (2 ^ 32 - 1)))
      outbox := { x.outbox with lost := BitVec.ofNat 8 (min (x.outbox.lost.toNat + 1) 255) } }

/-- A lane in which a FRAME event is made (R77, R80). -/
def LaneState.framed (x : LaneState) (ev : RxEvent) (now : Moment) : LaneState :=
  (if x.settings.guarded = true ∧ x.gateOpen = true then
    { x with gateDue := some (now + x.settings.guardWindow * 1000) } else x).entered ev

/-- A lane whose open press `p` closes (R72). -/
def LaneState.pressClosed (x : LaneState) (p : Press) (now : Moment) : LaneState :=
  { if p.endOwed = true ∧ p.delivering = true then x.framed (pressEvent p .end_ p.heldDuration (stamp now)) now else x
    with press := none }

/-- A lane whose open press has closed, when it does not outlive the new settings (R82, R151 (2)). -/
def LaneState.settled (x : LaneState) (new : LaneSettings) (now : Moment) : LaneState :=
  match x.press with
  | none => x
  | some p => if receiving new.mode = true ∧ p.profile ∈ new.armed then x else x.pressClosed p now

theorem enterOutbox_eq_entered {ev : RxEvent} (hkind : ev.kind ≠ .capture) (l : Lane) (s : State) :
    enterOutbox l ev s = s.setLane l ((s.lane l).entered ev) := by
  unfold LaneState.entered
  split
  · rename_i hroom
    exact enterOutbox_of_room hroom ev
  · rename_i hfull
    rw [enterOutbox_of_full (Nat.not_lt.mp hfull), if_neg hkind, List.append_nil]
    rfl

theorem makeFrame_eq_framed {ev : RxEvent} (hkind : ev.kind ≠ .capture) (l : Lane) (s : State) :
    makeFrame l ev s = s.setLane l ((s.lane l).framed ev s.clock) := by
  rw [makeFrame_eq, enterOutbox_eq_entered hkind]
  unfold LaneState.framed
  split
  · rw [State.setLane_lane_self, State.setLane_setLane]
  · rfl

theorem closed_eq_pressClosed (l : Lane) (p : Press) (s : State) :
    closed l p s = s.setLane l ((s.lane l).pressClosed p s.clock) := by
  unfold closed LaneState.pressClosed
  dsimp only
  split
  · rw [makeFrame_eq_framed, State.setLane_lane_self, State.setLane_setLane]
    · rfl
    · nofun
  · rfl

section
variable {x : LaneState} {new : LaneSettings} {now : Moment} {p : Press}

/-- The press that closes touches the outbox, the counters and the gate's timer besides, and nothing else. -/
theorem pressClosed_frame (x : LaneState) (p : Press) (now : Moment) :
    ∃ o c d, x.pressClosed p now = { x with press := none, outbox := o, counters := c, gateDue := d } := by
  unfold LaneState.pressClosed LaneState.framed LaneState.entered
  split
  · split <;> split <;> exact ⟨_, _, _, rfl⟩
  · exact ⟨_, _, _, rfl⟩

theorem settled_of_none (h : x.press = none) : x.settled new now = x := by
  unfold LaneState.settled
  rw [h]

theorem settled_of_kept (h : x.press = some p) (hon : receiving new.mode = true) (harmed : p.profile ∈ new.armed) :
    x.settled new now = x := by
  unfold LaneState.settled
  rw [h]
  exact if_pos ⟨hon, harmed⟩

theorem settled_of_closed (h : x.press = some p) (hends : receiving new.mode = false ∨ p.profile ∉ new.armed) :
    x.settled new now = x.pressClosed p now := by
  unfold LaneState.settled
  rw [h]
  refine if_neg fun ⟨hon, harmed⟩ => ?_
  exact hends.elim (fun hoff => Bool.false_ne_true (hoff.symm.trans hon)) fun hno => hno harmed

theorem pressEnds_iff (h : x.press = some p) :
    pressEnds x new = true ↔ receiving new.mode = false ∨ p.profile ∉ new.armed := by
  simp [pressEnds, h, receiving_eq_receives, or_comm]

theorem settled_frame (x : LaneState) (new : LaneSettings) (now : Moment) :
    ∃ pr o c d, x.settled new now = { x with press := pr, outbox := o, counters := c, gateDue := d } := by
  unfold LaneState.settled
  split
  · exact ⟨_, _, _, _, rfl⟩
  · split
    · exact ⟨_, _, _, _, rfl⟩
    · exact ⟨none, pressClosed_frame x _ now⟩

end

/-- The pin, the gate, the capture writer and the transmit side do not see whether a press ends. -/
theorem settled_keeps (x : LaneState) (new : LaneSettings) (now : Moment) :
    let k := x.settled new now
    k.pinHigh = x.pinHigh ∧ k.gateOpen = x.gateOpen ∧ k.capture = x.capture ∧ k.tx = x.tx ∧ k.queue = x.queue := by
  obtain ⟨pr, o, c, d, hk⟩ := settled_frame x new now
  rw [hk]
  exact ⟨rfl, rfl, rfl, rfl, rfl⟩

/-- The close of a press that ends under the new settings is an update of the lane (R82, R151 (2)). -/
theorem closePress_eq_settled (l : Lane) (new : LaneSettings) (s : State) :
    (if pressEnds (s.lane l) new then closePress l s else s) = s.setLane l ((s.lane l).settled new s.clock) := by
  cases hpress : (s.lane l).press with
  | none => simp [settled_of_none hpress, closePress_of_none hpress]
  | some p =>
    split
    · rename_i hends
      rw [settled_of_closed hpress ((pressEnds_iff hpress).mp hends), closePress_eq_closed hpress,
        closed_eq_pressClosed]
    · rename_i hkept
      rw [pressEnds_iff hpress, not_or, Bool.not_eq_false, Classical.not_not] at hkept
      rw [settled_of_kept hpress hkept.1 hkept.2, State.setLane_lane_same]

/-! ## The lane under its new settings -/

/-- A lane whose press and gate are under the new settings (R81, R151 (2), (3)). -/
def LaneState.gated (x : LaneState) (new : LaneSettings) (command : GateCommand) (now : Moment) : LaneState :=
  let k := x.settled new now
  let gate := gateAfter new.guarded command new.guardWindow now k.gateOpen k.gateDue
  { k with gateOpen := gate.1, gateDue := gate.2 }

/-- A lane whose input side restarts, or stops, as its mode says (R23, R40). -/
def LaneState.restarted (x : LaneState) (now : Moment) : LaneState :=
  if receiving x.settings.mode then { x with filter := some (sampledFilter x now), decoder := .hunt now }
  else { x with filter := none, decoder := .off }

/-- A lane to which a SET_LANE has been applied, before any read begins (R81, R151). -/
def LaneState.applied (x : LaneState) (new : LaneSettings) (command : GateCommand) (now : Moment) : LaneState :=
  { x.gated new command now with decoder := .off, blind := false, echoDue := none, settings := new }.restarted now

theorem settlePressAndGate_eq (l : Lane) (new : LaneSettings) (g : GateCommand) (s : State) :
    settlePressAndGate l new g s = s.setLane l ((s.lane l).gated new g s.clock) := by
  unfold settlePressAndGate LaneState.gated
  simp only [closePress_eq_settled, State.setLane_modLane, State.setLane_clock]

theorem quietDecoder_eq (l : Lane) (s : State) :
    quietDecoder l s =
      (s.setLane l { s.lane l with decoder := .off, blind := false, echoDue := none }).setCaptureList
        (s.captureList ++ (s.lane l).decoder.buffer.toList) := by
  unfold quietDecoder
  rw [abandonWork_eq]
  rfl

/-- A sequencer without an active request takes no part in the entry into HUNT (R96). -/
theorem enterHunt_of_inactive {l : Lane} {s : State} (h : (s.lane l).seq.active = none) :
    enterHunt l s = s.setLane l { s.lane l with decoder := .hunt s.clock } := by
  rw [enterHunt_eq_hunting]
  unfold hunting
  split
  · rename_i hactive
    exact absurd (h.symm.trans hactive) nofun
  · rfl

theorem restartInput_of_inactive {l : Lane} {s : State} (h : (s.lane l).seq.active = none) :
    restartInput l s = s.setLane l ((s.lane l).restarted s.clock) := by
  unfold restartInput LaneState.restarted
  rw [← receiving_eq_receives]
  split
  · rw [enterHunt_of_inactive (by rw [State.modLane_lane_self]; exact h)]
    simp [State.modLane_def]
  · rfl

theorem gated_frame (x : LaneState) (new : LaneSettings) (g : GateCommand) (now : Moment) :
    ∃ pr o c b d, x.gated new g now =
      { x with press := pr, outbox := o, counters := c, gateOpen := b, gateDue := d } := by
  obtain ⟨pr, o, c, d, hk⟩ := settled_frame x new now
  unfold LaneState.gated
  rw [hk]
  exact ⟨_, _, _, _, _, rfl⟩

/-- An accepted SET_LANE is one update of the lane and the capture list, and the check that leaving DISABLED brings
(R85, R151). -/
theorem applySettings_eq {l : Lane} {s : State} (hactive : (s.lane l).seq.active = none) (new : LaneSettings)
    (g : GateCommand) :
    applySettings l new g s =
      let u := (s.setLane l ((s.lane l).applied new g s.clock)).setCaptureList
        (s.captureList ++ (s.lane l).decoder.buffer.toList)
      if (s.lane l).settings.mode == .disabled then fetchCheck l u else u := by
  obtain ⟨pr, o, c, b, d, hk⟩ := gated_frame (s.lane l) new g s.clock
  unfold applySettings
  rw [settlePressAndGate_eq, quietDecoder_eq]
  simp only [State.setLane_lane_self, State.setLane_setLane, State.modLane_def, State.setCaptureList_lane,
    State.setCaptureList_setLane]
  rw [restartInput_of_inactive (by simp [hk, hactive])]
  simp only [LaneState.applied, hk, State.setLane_lane_self, State.setLane_setLane, State.setCaptureList_lane,
    State.setCaptureList_setLane]
  rfl

/-- The lane after SET_LANE, by the lane whose press has settled. -/
theorem applied_eq (x : LaneState) (new : LaneSettings) (g : GateCommand) (now : Moment) :
    let k := x.settled new now
    let gate := gateAfter new.guarded g new.guardWindow now k.gateOpen k.gateDue
    x.applied new g now =
      { k with
        settings := new, gateOpen := gate.1, gateDue := gate.2, blind := false, echoDue := none
        decoder := if receiving new.mode then .hunt now else .off
        filter :=
          if receiving new.mode then
            some { mark := k.pinHigh == new.inputHigh, firstEdge := now, handed := false, stuckReported := false,
                   unblinded := none, excursion := none }
          else none } := by
  unfold LaneState.applied LaneState.restarted
  dsimp only
  split <;> rfl

/-! ## The read that begins -/

/-- A SET_LANE that takes the lane out of DISABLED begins the read of an entry that waits (R85, R151). -/
def LaneState.begins (x : LaneState) (new : LaneSettings) : Bool :=
  x.settings.mode == .disabled && new.mode != .disabled && x.seq.state == .idle && x.queue.state == .running &&
    x.queue.head != x.queue.tail

/-- A lane under its new settings, its sequencer in FETCH when a read begins. -/
def LaneState.appliedSeq (x : LaneState) (new : LaneSettings) (command : GateCommand) (now : Moment) : LaneState :=
  { x.applied new command now with seq := if x.begins new then { x.seq with state := .fetch } else x.seq }

theorem applied_sender (x : LaneState) (new : LaneSettings) (g : GateCommand) (now : Moment) :
    (x.applied new g now).queue = x.queue ∧ (x.applied new g now).seq = x.seq ∧
      (x.applied new g now).settings = new := by
  obtain ⟨pr, o, c, d, hk⟩ := settled_frame x new now
  rw [applied_eq, hk]
  exact ⟨rfl, rfl, rfl⟩

/-- An accepted SET_LANE as one update of the lane and the capture list, and the read it begins (R85, R151). -/
theorem applySettings_eq_update {l : Lane} {s : State} (hactive : (s.lane l).seq.active = none) (new : LaneSettings)
    (g : GateCommand) :
    applySettings l new g s =
      let u := (s.setLane l ((s.lane l).appliedSeq new g s.clock)).setCaptureList
        (s.captureList ++ (s.lane l).decoder.buffer.toList)
      if (s.lane l).begins new then asked (.sequencer l) (entryAtHead (s.lane l).queue) u else u := by
  obtain ⟨hqueue, hseq, hmode⟩ := applied_sender (s.lane l) new g s.clock
  have hbegins : (s.lane l).begins new =
      ((s.lane l).settings.mode == .disabled && ((s.lane l).applied new g s.clock).mayFetch) := by
    rw [LaneState.begins, LaneState.mayFetch, hqueue, hseq, hmode]
    cases (s.lane l).settings.mode == .disabled <;> cases new.mode != .disabled <;> simp
  rw [applySettings_eq hactive, LaneState.appliedSeq]
  by_cases hb : (s.lane l).begins new = true
  · obtain ⟨hdisabled, hmay⟩ := Bool.and_eq_true_iff.mp (hbegins.symm.trans hb)
    simp only [hb, hdisabled, if_true]
    rw [fetchCheck_of_mayFetch (by simpa using hmay)]
    simp [hqueue, hseq]
  · rw [if_neg hb, if_neg hb, ← hseq]
    split
    · rename_i hdisabled
      refine fetchCheck_of_not_mayFetch fun hmay => hb ?_
      rw [hbegins, hdisabled]
      simpa using hmay
    · rfl

/-! ## The command -/

theorem onlyLaneAndBuffers_update (l : Lane) (z : LaneState) (list : List Word) (s : State) :
    OnlyLaneAndBuffers l s ((s.setLane l z).setCaptureList list) :=
  ⟨rfl, fun _ hne => State.setLane_lane_ne s z hne, rfl, fun _ _ => rfl⟩

theorem onlyLaneAndBuffers_asked {l : Lane} {s u : State} (h : OnlyLaneAndBuffers l s u) (tr : Transaction) :
    OnlyLaneAndBuffers l s (asked (.sequencer l) tr u) := by
  obtain ⟨hrest, hlanes, hpointer, hclients⟩ := h
  unfold asked
  split
  · exact ⟨congrArg (fun v => v.setBus (.sequencer l) (.pending tr)) hrest, hlanes, hpointer,
      fun c hc => (State.setBus_busSlot_ne u _ hc).trans (hclients c hc)⟩
  · exact ⟨hrest, hlanes, hpointer, hclients⟩

theorem asked_lane (c : BusClient) (tr : Transaction) (s : State) (l : Lane) : (asked c tr s).lane l = s.lane l := by
  unfold asked
  split <;> rfl

theorem asked_captureList (c : BusClient) (tr : Transaction) (s : State) :
    (asked c tr s).captureList = s.captureList := by
  unfold asked
  split <;> rfl

/-- What asking does at the client's place depends on what the place holds alone. -/
theorem asked_busSlot_congr {c : BusClient} {s u : State} (h : u.busSlot c = s.busSlot c) (tr : Transaction) :
    (asked c tr u).busSlot c = (asked c tr s).busSlot c := by
  unfold asked
  rw [h]
  cases hs : s.busSlot c <;> simp [h, hs]

theorem exec_setLane_applied {tag : Half} {a : LaneArgs} {s : State} {adm : AdminQueue} {l : Lane}
    (hread : EntryRead s adm) (hpass : firstBad (laneChecks a) = none) (hl : a.lane.toNat = l.val)
    (hnodup : (armedList a).Nodup) (harmable : ∀ i ∈ armedList a, Armable s i) (hactive : (s.lane l).seq.active = none)
    (hfetch : (s.lane l).seq.state ≠ .fetch) (hlist : (s.lane l).seq.state ≠ .listFetch) :
    exec (.setLane tag a) s =
      .next (chooseEvent
        (answered (applySettings l (laneSettings a) (gateCommand a.gateCommand) (taken s adm)) .ok tag 0 0)) := by
  have hsingle : firstDuplicate 12 [] (armedList a) = none :=
    firstDuplicate_of_nodup hnodup fun _ _ => List.not_mem_nil
  have hslots : firstUnarmable (taken s adm) 12 (armedList a) = none := firstUnarmable_of_armable harmable
  have hfree : ¬ ((taken s adm).lane l).refusesSettings = true := by
    rw [refusesSettings_iff]
    rintro (hsome | hstate | hstate)
    · exact absurd (show (s.lane l).seq.active.isSome from hsome) (by simp [hactive])
    · exact hfetch hstate
    · exact hlist hstate
  simp only [exec_setLane hread hpass, setLaneChecked, hsingle, hslots, toFour_eq hl, if_neg hfree]
  rfl

section
variable {l : Lane} {s : State}

theorem applySettings_lane (hactive : (s.lane l).seq.active = none) (new : LaneSettings) (g : GateCommand) :
    (applySettings l new g s).lane l = (s.lane l).appliedSeq new g s.clock := by
  rw [applySettings_eq_update hactive]
  dsimp only
  split <;> simp [asked_lane]

theorem applySettings_captureList (hactive : (s.lane l).seq.active = none) (new : LaneSettings) (g : GateCommand) :
    (applySettings l new g s).captureList = s.captureList ++ (s.lane l).decoder.buffer.toList := by
  rw [applySettings_eq_update hactive]
  dsimp only
  split
  · rw [asked_captureList]
    rfl
  · rfl

theorem onlyLaneAndBuffers_applySettings (hactive : (s.lane l).seq.active = none) (new : LaneSettings)
    (g : GateCommand) : OnlyLaneAndBuffers l s (applySettings l new g s) := by
  rw [applySettings_eq_update hactive]
  dsimp only
  split
  · exact onlyLaneAndBuffers_asked (onlyLaneAndBuffers_update ..) _
  · exact onlyLaneAndBuffers_update ..

theorem applySettings_busSlot_of_begins (hactive : (s.lane l).seq.active = none) {new : LaneSettings}
    (hb : (s.lane l).begins new = true) (g : GateCommand) :
    (applySettings l new g s).busSlot (.sequencer l) =
      (asked (.sequencer l) (entryAtHead (s.lane l).queue) s).busSlot (.sequencer l) := by
  rw [applySettings_eq_update hactive]
  dsimp only
  rw [if_pos hb]
  refine asked_busSlot_congr ?_ _
  rfl

theorem applySettings_busSlot_of_rests (hactive : (s.lane l).seq.active = none) {new : LaneSettings}
    (hb : (s.lane l).begins new = false) (g : GateCommand) :
    (applySettings l new g s).busSlot (.sequencer l) = s.busSlot (.sequencer l) := by
  rw [applySettings_eq_update hactive]
  dsimp only
  rw [hb]
  rfl

end

/-- Settles O26: the command is the update of `applySettings_eq_update` and ends OK; the press by whether it outlives
the settings, the gate by its command, and the read by `LaneState.begins`. -/
theorem setLaneApplied : Obligations.SetLaneApplied := by
  intro tag a s adm l hread hpass hl hnodup harmable hactive hfetch hlist new x on begins
  have hlane : (applySettings l new (gateCommand a.gateCommand) (taken s adm)).lane l =
      x.appliedSeq new (gateCommand a.gateCommand) s.clock := applySettings_lane (s := taken s adm) hactive ..
  have hplace : (taken s adm).busSlot (.sequencer l) = s.busSlot (.sequencer l) :=
    State.setBus_busSlot_ne s .idle nofun
  have hclosed (p : Press) : (closed l p s).lane l = x.pressClosed p s.clock := by
    rw [closed_eq_pressClosed, State.setLane_lane_self]
  refine ⟨laneSettings_fields hpass, _, exec_setLane_applied hread hpass hl hnodup harmable hactive hfetch hlist,
    onlyLaneAndBuffers_applySettings (s := taken s adm) hactive ..,
    applySettings_captureList (s := taken s adm) hactive .., ?_⟩
  rw [hlane, LaneState.appliedSeq, applied_eq]
  dsimp only
  obtain ⟨hpin, hopen, hcapture, htx, hqueue⟩ := settled_keeps x new s.clock
  refine ⟨rfl, hpin, rfl, rfl, rfl, by rw [hpin], hcapture, htx, hqueue, fun p hp hon harmed => ?kept,
    fun hnone => ?none, fun p hp hends => ?ended, fun hfree => ?unguarded, fun hguarded hcode => ?keep,
    fun hguarded hcode => ?opens, fun hguarded hcode => ?closes, rfl, fun hb => ?begins, fun hb => ?rests⟩
  case kept =>
    rw [settled_of_kept hp hon harmed]
    exact ⟨hp, rfl, rfl⟩
  case none =>
    rw [settled_of_none hnone]
    exact ⟨hnone, rfl, rfl⟩
  case ended =>
    rw [settled_of_closed hp hends, hclosed]
    exact ⟨rfl, rfl, rfl⟩
  case unguarded => simp [gateAfter, hfree]
  case keep =>
    simp only [gateAfter, hguarded, gateCommand_of_keep hcode, if_true]
    refine ⟨hopen, fun hnone => by rw [settled_of_none hnone], fun p hp => ⟨fun hon harmed => ?_, fun hends => ?_⟩⟩
    · rw [settled_of_kept hp hon harmed]
    · rw [settled_of_closed hp hends, hclosed]
  case opens => simp [gateAfter, hguarded, gateCommand_of_open hcode]
  case closes => simp [gateAfter, hguarded, gateCommand_of_close hcode]
  case begins =>
    rw [applySettings_busSlot_of_begins (s := taken s adm) hactive hb]
    exact asked_busSlot_congr hplace _
  case rests =>
    rw [applySettings_busSlot_of_rests (s := taken s adm) hactive hb]
    exact hplace

end Sys2Proof.Machine
end

section
/-! The queue of commands (log entry 1): a step with a command in it runs the one at the front, and the block answers
every command and leaves the queue to its sender, resets included (log entries 1, 2 and 20). A change inside one lane is
`OnlyLane`'s field `pending`; what reaches beyond a lane is said here, once per operation. -/

namespace Sys2Proof.Machine

/-! ## The bus port and the event writer -/

@[simp] theorem askBus_pending (c : BusClient) (t : Transaction) (s : State) : (askBus c t s).pending = s.pending := by
  rcases askBus_cases c t s with ⟨-, hask⟩ | ⟨-, hask⟩ <;> rw [hask]
  rfl

@[simp] theorem startTransaction_pending (s : State) : (startTransaction s).pending = s.pending := by
  rcases startTransaction_cases s with ⟨i, t, -, -, hstart⟩ | hstart <;> rw [hstart]

@[simp] theorem settleStopping_pending (s : State) : (settleStopping s).pending = s.pending := by
  unfold settleStopping
  split <;> rfl

/-- The end of a transaction keeps the queue of commands when what its client does then keeps it. -/
theorem endTransaction_pending {c : BusClient} {wanted : Purpose → Bool} {act : Transaction → State → State}
    {s : State} (hact : ∀ t u, (act t u).pending = u.pending) : (endTransaction c wanted act s).pending = s.pending := by
  rcases endTransaction_cases c wanted act s with ⟨t, -, -, ⟨-, hend⟩ | ⟨-, hend⟩⟩ | hend <;> rw [hend]
  · exact hact t _
  · exact settleStopping_pending _

@[simp] theorem releaseHeld_pending (ev : RxEvent) (s : State) : (releaseHeld ev s).pending = s.pending := by
  unfold releaseHeld
  split <;> rfl

@[simp] theorem leaveOutbox_pending (l : Lane) (s : State) : (leaveOutbox l s).pending = s.pending := by
  unfold leaveOutbox
  dsimp only
  split
  · exact releaseHeld_pending _ _
  · split
    · rfl
    · exact releaseHeld_pending _ _

@[simp] theorem dropSettling_pending (l : Lane) (s : State) : (dropSettling l s).pending = s.pending := by
  unfold dropSettling
  dsimp only
  split
  · rfl
  · split <;> rfl

/-! ## The command unit -/

@[simp] theorem adminFetchCheck_pending (s : State) : (adminFetchCheck s).pending = s.pending := by
  unfold adminFetchCheck
  split
  · split
    · rfl
    · exact askBus_pending _ _ _
  · rfl

@[simp] theorem beginLoad_pending (tag : Half) (slot : Byte) (address : Word) (s : State) :
    (beginLoad tag slot address s).pending = s.pending := by
  unfold beginLoad
  dsimp only
  split
  · rfl
  · exact askBus_pending _ _ _

@[simp] theorem endLoad_pending (tag : Half) (i : SlotId) (record : Option ProfileRecord) (s : State) :
    (endLoad tag i record s).pending = s.pending := by
  unfold endLoad
  dsimp only
  split
  · rfl
  · split <;> rfl

@[simp] theorem clearSlot_pending (tag : Half) (slot : Byte) (s : State) :
    (clearSlot tag slot s).pending = s.pending := by
  unfold clearSlot
  dsimp only
  split <;> rfl

@[simp] theorem setLaneChecked_pending (tag : Half) (a : LaneArgs) (s : State) :
    (setLaneChecked tag a s).pending = s.pending := by
  unfold setLaneChecked
  dsimp only
  split
  · rfl
  · split
    · rfl
    · split
      · rfl
      · exact (onlyLane_applySettings _ _ _ s).pending

@[simp] theorem resetLane_pending (l : Lane) (s : State) : (resetLane l s).pending = s.pending := by
  unfold resetLane
  dsimp only [State.setLane_pending]
  split
  · rw [discardCaptureWrite_eq_setBus]
    rfl
  · rfl

@[simp] theorem reportAbort_pending (l : Lane) (n : Nat) (s : State) : (reportAbort l n s).pending = s.pending := by
  unfold reportAbort
  dsimp only
  split
  · split
    · exact resetLane_pending _ _
    · rfl
  all_goals rfl

@[simp] theorem abortLane_pending (tag : Half) (l : Lane) (flush reset : Bool) (s : State) :
    (abortLane tag l flush reset s).pending = s.pending := by
  have hcaught := (onlyLane_abortInHand l flush (setAdmin (.executing tag (.laneAbort l reset)) s)).pending
  unfold abortLane
  dsimp only
  generalize abortInHand l flush (setAdmin (.executing tag (.laneAbort l reset)) s) = caught at hcaught ⊢
  generalize (if flush then _ else 0) = entries
  split
  · exact (reportAbort_pending _ _ _).trans hcaught
  · split
    · exact (onlyLane_beginFetch l _).pending.trans hcaught
    all_goals exact hcaught

@[simp] theorem clearCounters_pending (source : CounterSource) (s : State) :
    (clearCounters source s).pending = s.pending := by
  cases source with
  | lane l => exact State.modLane_pending s l _
  | hits start count =>
    unfold clearCounters
    rfl

@[simp] theorem endCounters_pending (tag : Half) (source : CounterSource) (clear busError : Bool) (s : State) :
    (endCounters tag source clear busError s).pending = s.pending := by
  unfold endCounters
  split
  · rfl
  · split
    · exact clearCounters_pending _ _
    · rfl

theorem claimEventQueue_pending {q : EqId} {a : EventQueueArgs} {s t : State} (h : claimEventQueue q a s = some t) :
    t.pending = s.pending := by
  by_cases hfree : EventQueueFree s q
  · rw [claimEventQueue_of_free hfree] at h
    cases h
    rfl
  · rw [claimEventQueue_of_busy hfree] at h
    cases h

theorem postBuffer_pending {address : Word} {s t : State} (h : postBuffer address s = some t) :
    t.pending = s.pending := by
  unfold postBuffer at h
  rw [Option.ite_none_right_eq_some] at h
  rw [← Option.some.inj h.2]

theorem decided_pending {tag : Half} {refusal : Code} {claim : Option State} {s : State}
    (hclaim : ∀ t, claim = some t → t.pending = s.pending) : (decided tag refusal claim s).pending = s.pending := by
  cases claim with
  | none => rfl
  | some t => exact hclaim t rfl

theorem takeCommand_pending {act : State → State} {s : State} (hact : ∀ u, (act u).pending = u.pending) :
    (takeCommand act s).pending = s.pending :=
  endTransaction_pending fun _ u => (chooseEvent_pending _).trans (hact (advanceAdmin u))

/-- A command of the command unit, taken and its fields checked, keeps the queue of commands when what it does with
fields in range keeps it. -/
theorem takeChecked_pending {tag : Half} {checks : List (Nat × Bool)} {act : State → State} {s : State}
    (hact : ∀ u, (act u).pending = u.pending) : (takeCommand (checked tag checks act) s).pending = s.pending := by
  refine takeCommand_pending fun u => ?_
  unfold checked
  split
  · rfl
  · exact hact u

/-! ## Register writes -/

@[simp] theorem writeControl_pending (word : Word) (s : State) : (writeControl word s).pending = s.pending := by
  unfold writeControl
  split
  · exact settleStopping_pending (resetBlocks s)
  · dsimp only
    split
    · unfold enableEngine
      split <;> rfl
    · exact settleStopping_pending (stopBlocks _)
    all_goals rfl

@[simp] theorem writeAdminBase_pending (word : Word) (s : State) : (writeAdminBase word s).pending = s.pending := by
  unfold writeAdminBase
  split <;> rfl

theorem noticeAdminQueue_pending {tail : Nat} {s t : State} (h : noticeAdminQueue tail s = some t) :
    t.pending = s.pending := by
  cases hq : s.admin.queue with
  | none =>
    rw [noticeAdminQueue_of_none hq] at h
    cases h
  | some q =>
    rw [noticeAdminQueue_of_some hq, Option.ite_none_right_eq_some] at h
    rw [← Option.some.inj h.2]
    exact adminFetchCheck_pending _

/-- A notice, taken by its owner or refused, keeps the queue of commands when its taking keeps it (R165). -/
theorem notice_pending {s : State} {notice : Option State} (htaken : ∀ t, notice = some t → t.pending = s.pending) :
    (notice.getD { s with submitError := true }).pending = s.pending := by
  cases notice with
  | none => rfl
  | some t => exact htaken t rfl

@[simp] theorem writeSubmit_pending (word : Word) (s : State) : (writeSubmit word s).pending = s.pending := by
  by_cases hlane : word.toNat % 8 < 4
  · rw [writeSubmit_of_lane (l := ⟨_, hlane⟩) rfl]
    exact notice_pending fun _ htaken => (onlyLane_noticeRequestQueue htaken).pending
  · by_cases hadmin : word.toNat % 8 = 4
    · rw [writeSubmit_of_admin hadmin]
      exact notice_pending fun _ => noticeAdminQueue_pending
    · rw [writeSubmit_of_no_queue (by omega)]

@[simp] theorem acknowledge_pending (word : Word) (s : State) : (acknowledge word s).pending = s.pending := by
  unfold acknowledge
  dsimp only
  split
  · split
    · rfl
    · exact chooseEvent_pending _
  · rfl

@[simp] theorem hostWrite_pending (offset width : Nat) (word : Word) (s : State) :
    (hostWrite offset width word s).pending = s.pending := by
  unfold hostWrite
  split
  · split
    · exact writeControl_pending word s
    · rfl
    · exact writeAdminBase_pending word s
    · exact writeSubmit_pending word s
    · exact acknowledge_pending word s
    · rfl
  · rfl

/-! ## Ends of transactions -/

@[simp] theorem captureWriteEnds_pending (l : Lane) (busError : Bool) (s : State) :
    (captureWriteEnds l busError s).pending = s.pending := by
  refine endTransaction_pending fun t u => ?_
  split
  · rfl
  · split
    · exact askBus_pending _ _ _
    · exact (onlyLane_enterOutbox l _ _).pending

@[simp] theorem listReadEnds_pending (l : Lane) (pairs : Option (List RawPair)) (s : State) :
    (listReadEnds l pairs s).pending = s.pending := by
  unfold listReadEnds
  dsimp only
  split
  · split
    · exact endTransaction_pending fun _ u => (onlyLane_listArrives l _ _ u).pending
    · rfl
  · exact endTransaction_pending fun _ u => (onlyLane_finish l _ _ _ u).pending
  · exact endTransaction_pending fun _ u => askBus_pending _ _ u
  · exact endTransaction_pending fun _ _ => rfl

@[simp] theorem completionWritten_pending (l : Lane) (s : State) : (completionWritten l s).pending = s.pending := by
  unfold completionWritten
  dsimp only
  split
  · exact (onlyLane_fetchCheck l _).pending
  · split
    · exact (onlyLane_fetchCheck l _).pending.trans (reportAbort_pending _ _ _)
    · exact (onlyLane_beginFetch l _).pending

@[simp] theorem writerServed_pending (w : Writer) (s : State) : (writerServed w s).pending = s.pending := by
  cases w with
  | commandUnit => exact adminFetchCheck_pending _
  | sequencer l => exact completionWritten_pending l s
  | outbox l => exact leaveOutbox_pending l s

@[simp] theorem eventWritten_pending (s : State) : (eventWritten s).pending = s.pending := by
  refine endTransaction_pending fun _ u => ?_
  split
  · rfl
  · exact (chooseEvent_pending _).trans (writerServed_pending _ _)

@[simp] theorem eventFailed_pending (s : State) : (eventFailed s).pending = s.pending := by
  refine endTransaction_pending fun _ u => ?_
  dsimp only
  split
  · rfl
  · rename_i w q _
    refine (chooseEvent_pending _).trans ?_
    cases w with
    | commandUnit => rfl
    | sequencer l => rfl
    | outbox l => exact dropSettling_pending l _

/-! ## Commands and steps -/

/-- No command ends in a fault or a refusal: each has a next state. -/
theorem exec_completes (c : Instr) (s : State) : ∃ t, exec c s = .next t := by
  cases c <;> exact ⟨_, rfl⟩

/-- A happening of a lane, with the event writer's choice after it. -/
theorem OnlyLane.pending_chooseEvent {l : Lane} {s t : State} (h : OnlyLane l s t) :
    (chooseEvent t).pending = s.pending := (chooseEvent_pending t).trans h.pending

/-- Every command, the resets included, leaves the queue of commands as it was. -/
theorem exec_pending {c : Instr} {s t : State} (hexec : exec c s = .next t) : t.pending = s.pending := by
  cases c <;> cases hexec
  case powerOnReset => rfl
  case engineReset word => exact writeControl_pending word s
  case enable word => exact writeControl_pending word s
  case engineStop word => exact writeControl_pending word s
  case irqEnableWrite word => exact writeControl_pending word s
  case submitErrorClear word => rfl
  case ackErrorClear word => rfl
  case adminFaultClear word => rfl
  case adminBaseWrite word => exact writeAdminBase_pending word s
  case submit word => exact writeSubmit_pending word s
  case eventAck word => exact acknowledge_pending word s
  case clearNotice word => exact acknowledge_pending word s
  case registerWriteIgnored offset width word => exact hostWrite_pending offset width word s
  case busGrant =>
    split
    · exact startTransaction_pending s
    all_goals rfl
  case stoppingTransactionEnd client busError =>
    split
    · exact endTransaction_pending fun _ _ => rfl
    all_goals rfl
  case adminReadError => exact endTransaction_pending fun _ _ => rfl
  case unknownCommand command tag =>
    split
    · rfl
    · exact takeCommand_pending fun _ => rfl
  case nop tag => exact takeCommand_pending fun _ => rfl
  case setEventQueue tag a =>
    exact takeChecked_pending fun _ => decided_pending fun _ => claimEventQueue_pending
  case setRequestQueue tag a =>
    exact takeChecked_pending fun _ => decided_pending fun _ hclaim => (onlyLane_claimRequestQueue hclaim).pending
  case loadProfile tag slot address => exact takeChecked_pending (beginLoad_pending tag slot address)
  case profileRecordReadEnd record =>
    refine endTransaction_pending fun _ u => ?_
    split
    · exact (chooseEvent_pending _).trans (endLoad_pending _ _ _ _)
    · rfl
  case clearProfile tag slot => exact takeChecked_pending (clearSlot_pending tag slot)
  case loadFilter tag a => exact takeChecked_pending fun _ => rfl
  case setLane tag a => exact takeChecked_pending (setLaneChecked_pending tag a)
  case abortLane tag l scope => exact takeChecked_pending (abortLane_pending _ _ _ _)
  case resetLane tag l => exact takeChecked_pending (abortLane_pending _ _ _ _)
  case release tag l holdTag =>
    exact takeChecked_pending fun _ => decided_pending fun _ hends => (onlyLane_releaseHold hends).pending
  case postCaptureBuffer tag address =>
    exact takeChecked_pending fun _ => decided_pending fun _ => postBuffer_pending
  case readCounters tag a => exact takeChecked_pending fun _ => askBus_pending _ _ _
  case counterBlockWriteEnd busError =>
    refine endTransaction_pending fun _ u => ?_
    split
    · exact (chooseEvent_pending _).trans (endCounters_pending _ _ _ _ _)
    · rfl
  case pinEdge l high => exact (onlyLane_takePinEdge l high s).pending_chooseEvent
  case transitionConfirm l => exact (onlyLane_confirmHeld l s).pending_chooseEvent
  case thresholdCrossing l => exact (onlyLane_crossingsNow l s).pending_chooseEvent
  case captureWriteEnd l busError => exact (chooseEvent_pending _).trans (captureWriteEnds_pending l busError s)
  case repeatWindowExpiry l =>
    split
    · rfl
    · split
      · exact (onlyLane_closePress l s).pending_chooseEvent
      · rfl
  case gateWindowExpiry l => split <;> rfl
  case echoGuardExpiry l =>
    split
    · exact (onlyLane_withdrawBlind l s).pending_chooseEvent
    · rfl
  case requestEntryReadEnd l e =>
    exact (chooseEvent_pending _).trans (endTransaction_pending fun _ u => (onlyLane_takeEntry l e u).pending)
  case requestReadError l => exact (chooseEvent_pending _).trans (endTransaction_pending fun _ _ => rfl)
  case activation l => exact (onlyLane_activationTaken l s).pending_chooseEvent
  case pairListReadEnd l pairs => exact (chooseEvent_pending _).trans (listReadEnds_pending l pairs s)
  case spacingTimerExpiry l => exact (onlyLane_spacingExpires l s).pending
  case transmissionEnd l => exact (onlyLane_transmissionEnds l s).pending_chooseEvent
  case deferTimerExpiry l => exact (onlyLane_deferExpires l s).pending_chooseEvent
  case holdLimitExpiry l => exact (onlyLane_holdLimitExpires l s).pending_chooseEvent
  case replyWindowExpiry l => exact (onlyLane_replyExpires l s).pending_chooseEvent
  case eventWriteEnd => exact eventWritten_pending s
  case eventWriteError => exact eventFailed_pending s
  case holdoffExpiry q => split <;> rfl

/-- Settles O3: each command has a next state, and one lemma per operation says that it keeps the queue of commands. -/
theorem commandsCompleteAndKeepQueue : Obligations.CommandsCompleteAndKeepQueue := by
  intro c s
  obtain ⟨t, hexec⟩ := exec_completes c s
  exact ⟨t, hexec, exec_pending hexec⟩

/-- Settles O1: the first branch of `step`, which a command in the queue selects. -/
theorem stepRunsFrontCommand : Obligations.StepRunsFrontCommand := by
  intro c rest s hqueue
  unfold step
  rw [hqueue]

end Sys2Proof.Machine
end

section
/-! Two views of a lane that the invariants of the capture buffers (R59, R60, R63) and of the one request (R84) speak of:
the custody of its buffers, and its sender. Neither the outbox's FRAME events and notices nor the press tracker touches
either of them. -/

namespace Sys2Proof.Machine

/-! ## The views -/

/-- The events with a capture buffer that a lane's outbox holds, the one kept at a RESET_LANE among them (R63, R155). -/
def Outbox.captures (o : Outbox) : Nat :=
  o.events.countP RxEvent.isCapture + o.settling.toList.countP RxEvent.isCapture

/-- The buffers in the capture list and those a lane holds, with what tells whether the lane may take one (R33, R60). -/
structure Custody where
  listed : Nat
  decoder : Decoder
  capture : Option FinishedCapture
  blind : Bool
  boxed : Nat

/-- The custody of lane `l`. -/
def State.custody (s : State) (l : Lane) : Custody :=
  { listed := s.captureList.length, decoder := (s.lane l).decoder, capture := (s.lane l).capture,
    blind := (s.lane l).blind, boxed := (s.lane l).outbox.captures }

/-- A lane's sequencer, whether a transmission is on the line, and the sequencer's place at the bus port. -/
structure Sender where
  seq : Sequencer
  onLine : Bool
  place : BusSlot

/-- The sender of lane `l`. -/
def State.sender (s : State) (l : Lane) : Sender :=
  { seq := (s.lane l).seq, onLine := (s.lane l).tx.isSome, place := s.busSlot (.sequencer l) }

/-- Both views of lane `l`. -/
def State.holdings (s : State) (l : Lane) : Custody × Sender := (s.custody l, s.sender l)

theorem custody_of_holdings {s t : State} {l : Lane} (h : t.holdings l = s.holdings l) : t.custody l = s.custody l :=
  congrArg Prod.fst h

theorem sender_of_holdings {s t : State} {l : Lane} (h : t.holdings l = s.holdings l) : t.sender l = s.sender l :=
  congrArg Prod.snd h

/-- An update of a lane that leaves its decoder, its buffers, its sequencer and its line alone. -/
@[simp] theorem State.holdings_modLane {l : Lane} {f : LaneState → LaneState} (s : State)
    (h : ∀ x, (f x).decoder = x.decoder ∧ (f x).capture = x.capture ∧ (f x).blind = x.blind ∧
      (f x).outbox = x.outbox ∧ (f x).seq = x.seq ∧ (f x).tx = x.tx) : (s.modLane l f).holdings l = s.holdings l := by
  simp [State.holdings, State.custody, State.sender, h]

@[simp] theorem bump_holdings (l : Lane) (c : LaneCounter) (s : State) : (bump l c s).holdings l = s.holdings l :=
  State.holdings_modLane s fun _ => ⟨rfl, rfl, rfl, rfl, rfl, rfl⟩

/-! ## Outbox and press tracker -/

/-- An event without a capture buffer passes no buffer on (R63). -/
theorem enterOutbox_holdings {ev : RxEvent} (hkind : ev.kind ≠ .capture) (l : Lane) (s : State) :
    (enterOutbox l ev s).holdings l = s.holdings l := by
  have hev : ∀ lost, RxEvent.isCapture { ev with lost := lost } = false := by
    intro lost
    unfold RxEvent.isCapture
    cases hk : ev.kind <;> simp_all
  rcases enterOutbox_cases l ev s with ⟨-, h⟩ | ⟨-, h⟩ <;> rw [h]
  · simp [State.holdings, State.custody, State.sender, Outbox.captures, hev]
  · simp [State.holdings, State.custody, State.sender, Outbox.captures, hkind, bump_lane]
    rfl

theorem makeFrame_holdings {ev : RxEvent} (hkind : ev.kind ≠ .capture) (l : Lane) (s : State) :
    (makeFrame l ev s).holdings l = s.holdings l := by
  unfold makeFrame
  dsimp only
  split <;> simp [enterOutbox_holdings hkind]

@[simp] theorem frameEvent_made (l : Lane) (f : GoodFrame) (phase : PressPhase) (wake : Bool) (target : EqId) (tag : Half)
    (timestamp : Word) (s : State) :
    (makeFrame l (frameEvent f phase wake target tag timestamp) s).holdings l = s.holdings l :=
  makeFrame_holdings (by simp [frameEvent]) l s

@[simp] theorem pressEvent_made (l : Lane) (p : Press) (phase : PressPhase) (aux timestamp : Word) (s : State) :
    (makeFrame l (pressEvent p phase aux timestamp) s).holdings l = s.holdings l :=
  makeFrame_holdings (by simp [pressEvent]) l s

@[simp] theorem closePress_holdings (l : Lane) (s : State) : (closePress l s).holdings l = s.holdings l := by
  unfold closePress
  split
  · rfl
  · dsimp only
    split <;> simp

@[simp] theorem countRepeat_holdings (l : Lane) (p : Press) (start : Moment) (s : State) :
    (countRepeat l p start s).holdings l = s.holdings l := by
  unfold countRepeat
  dsimp only
  split <;> simp

@[simp] theorem lookup_holdings (l : Lane) (f : GoodFrame) (s : State) :
    (lookup l f s).2.holdings l = s.holdings l := by
  unfold lookup
  split
  · split <;> rfl
  · rfl

@[simp] theorem firstEvents_holdings (l : Lane) (f : GoodFrame) (v : Verdict) (phase : Option PressPhase) (s : State) :
    (firstEvents l f v phase s).holdings l = s.holdings l := by
  unfold firstEvents
  split <;> simp

@[simp] theorem openPress_holdings (l : Lane) (f : GoodFrame) (v : Verdict) (d e : Bool) (s : State) :
    (openPress l f v d e s).holdings l = s.holdings l := by
  unfold openPress
  dsimp only
  split <;> simp

@[simp] theorem newPress_holdings (l : Lane) (f : GoodFrame) (s : State) :
    (newPress l f s).holdings l = s.holdings l := by
  unfold newPress
  dsimp only
  split
  · split <;> simp
  · simp

@[simp] theorem takeFrame_holdings (l : Lane) (f : GoodFrame) (s : State) :
    (takeFrame l f s).holdings l = s.holdings l := by
  unfold takeFrame
  split
  · simp
  · split <;> simp

@[simp] theorem takeRepeatCode_holdings (l : Lane) (i : SlotId) (start : Moment) (s : State) :
    (takeRepeatCode l i start s).holdings l = s.holdings l := by
  unfold takeRepeatCode
  split
  · simp
  · split <;> simp

/-- A frame in error is counted, and its event carries no buffer (R50). -/
@[simp] theorem frameError_holdings (l : Lane) (c : Code) (i : SlotId) (start : Moment) (part : PartialFrame)
    (s : State) : (frameError l c i start part s).holdings l = s.holdings l := by
  unfold frameError
  dsimp only
  split
  · rw [enterOutbox_holdings (by simp), bump_holdings]
  · simp

end Sys2Proof.Machine
end

section
/-! Capture buffers on their way through a lane (R33, R55 to R60, R63): each operation of the receive side passes every
buffer on to one place, and leaves the lane blind exactly when its decoder is BLIND. -/

namespace Sys2Proof.Machine

/-! ## What a lane and the list hold together -/

/-- The buffers in the capture list and those of one lane. -/
def Custody.total (c : Custody) : Nat :=
  c.listed + c.decoder.buffer.toList.length + c.capture.toList.length + c.boxed

/-- The decoder collects no capture while the capture writer holds one, and the lane is blind exactly when its decoder is
BLIND (R33, R60). -/
def Custody.Sound (c : Custody) : Prop :=
  (c.decoder.buffer.isSome → c.capture = none) ∧ (c.blind = true ↔ c.decoder = .blind)

/-- From `s` to `t` the buffers of lane `l` and of the list are passed on without loss. -/
def Carried (l : Lane) (s t : State) : Prop :=
  (s.custody l).Sound → (t.custody l).Sound ∧ (t.custody l).total = (s.custody l).total

theorem Carried.trans {l : Lane} {s t u : State} (h : Carried l s t) (k : Carried l t u) : Carried l s u := fun hs =>
  have ht := h hs
  have hu := k ht.1
  ⟨hu.1, hu.2.trans ht.2⟩

theorem carried_of_same {l : Lane} {s t : State} (h : t.custody l = s.custody l) : Carried l s t := by
  intro hs
  rw [h]
  exact ⟨hs, rfl⟩

theorem carried_refl (l : Lane) (s : State) : Carried l s s := carried_of_same rfl

theorem carried_of_holdings {l : Lane} {s t : State} (h : t.holdings l = s.holdings l) : Carried l s t :=
  carried_of_same (custody_of_holdings h)

/-- A decoder that collects no capture and is not BLIND. -/
def Decoder.Free (d : Decoder) : Prop := d.buffer = none ∧ d ≠ .blind

/-! ## Custody after an update -/

@[simp] theorem State.custody_setLane (l : Lane) (x : LaneState) (s : State) :
    (s.setLane l x).custody l =
      { listed := s.captureList.length, decoder := x.decoder, capture := x.capture, blind := x.blind,
        boxed := x.outbox.captures } := by
  simp [State.custody]

@[simp] theorem State.custody_modLane (l : Lane) (f : LaneState → LaneState) (s : State) :
    (s.modLane l f).custody l =
      { listed := s.captureList.length, decoder := (f (s.lane l)).decoder, capture := (f (s.lane l)).capture,
        blind := (f (s.lane l)).blind, boxed := (f (s.lane l)).outbox.captures } :=
  State.custody_setLane l _ s

@[simp] theorem State.custody_modSeq (l : Lane) (f : Sequencer → Sequencer) (s : State) :
    (s.modSeq l f).custody l = s.custody l := State.custody_modLane l _ s

@[simp] theorem State.custody_captureList (list : List Word) (s : State) (l : Lane) :
    State.custody { s with captureList := list } l = { s.custody l with listed := list.length } := rfl

@[simp] theorem State.custody_setBus (c : BusClient) (x : BusSlot) (s : State) (l : Lane) :
    (s.setBus c x).custody l = s.custody l := rfl

@[simp] theorem askBus_custody (c : BusClient) (t : Transaction) (s : State) (l : Lane) :
    (askBus c t s).custody l = s.custody l := by
  rcases askBus_cases c t s with ⟨-, h⟩ | ⟨-, h⟩ <;> rw [h]
  rfl

@[simp] theorem bump_custody (l : Lane) (c : LaneCounter) (s : State) : (bump l c s).custody l = s.custody l :=
  custody_of_holdings (bump_holdings l c s)

@[simp] theorem setDecoder_custody (l : Lane) (d : Decoder) (s : State) :
    (setDecoder l d s).custody l = { s.custody l with decoder := d } := State.custody_modLane l _ s

@[simp] theorem markOverrun_custody (l : Lane) (s : State) : (markOverrun l s).custody l = s.custody l := by
  unfold markOverrun
  rw [bump_custody, State.custody_modLane]
  rfl

@[simp] theorem blindMark_custody (l : Lane) (edge : Moment) (s : State) :
    (blindMark l edge s).custody l = s.custody l := by
  rcases blindMark_cases l edge s with ⟨t, since, -, -, -, -, -, h⟩ | h <;> simp [h]

@[simp] theorem takeGoodFrame_custody (l : Lane) (f : GoodFrame) (s : State) :
    (takeGoodFrame l f s).custody l = s.custody l := by
  have hframe := custody_of_holdings (takeFrame_holdings l f s)
  unfold takeGoodFrame complete
  dsimp only
  split
  · split
    · exact State.custody_modSeq l _ s
    · exact hframe
  · exact hframe

@[simp] theorem finishCapture_custody (l : Lane) (b : Word) (start : Moment) (c : Code) (pairs : List CapturePair)
    (s : State) :
    (finishCapture l b start c pairs s).custody l =
      { s.custody l with capture := some { buffer := b, start := start, status := c, pairs := pairs } } := by
  unfold finishCapture
  rw [askBus_custody, State.custody_modLane]
  rfl

/-! ## The decoder's state changes -/

/-- A decoder that holds no buffer goes over to another such state. -/
theorem carried_setDecoder {l : Lane} {s : State} {d : Decoder} (hold : (s.custody l).decoder.Free) (hnew : d.Free) :
    Carried l s (setDecoder l d s) := by
  rintro ⟨-, hblind⟩
  rw [setDecoder_custody]
  obtain ⟨hold, hseen⟩ := hold
  obtain ⟨hnone, hnotBlind⟩ := hnew
  refine ⟨⟨fun h => by simp [hnone] at h, ?_⟩, ?_⟩
  · simp only [hseen, iff_false] at hblind
    simp [hblind, hnotBlind]
  · simp [Custody.total, hold, hnone]

/-- A capture in progress goes on with its buffer (R57). -/
theorem carried_continueCapture {l : Lane} {s : State} {w w' : CaptureWork} (h : (s.lane l).decoder = .capture w)
    (hbuffer : w'.buffer = w.buffer) : Carried l s (setDecoder l (.capture w') s) := by
  rintro ⟨hwriter, hblind⟩
  have hd : (s.custody l).decoder = .capture w := h
  rw [setDecoder_custody]
  rw [hd] at hwriter hblind
  refine ⟨⟨fun _ => hwriter rfl, ?_⟩, ?_⟩
  · simpa using hblind
  · simp [Custody.total, hd, Decoder.buffer, hbuffer]

/-- A capture that ends passes its buffer from the decoder to the capture writer (R57, R58). -/
theorem carried_passCapture {l : Lane} {s : State} {w : CaptureWork} {d : Decoder}
    (h : (s.lane l).decoder = .capture w) (hd : d.Free) (b : Word) (start : Moment) (c : Code)
    (pairs : List CapturePair) : Carried l s (finishCapture l b start c pairs (setDecoder l d s)) := by
  rintro ⟨hwriter, hblind⟩
  have hold : (s.custody l).decoder = .capture w := h
  rw [finishCapture_custody, setDecoder_custody]
  rw [hold] at hwriter hblind
  obtain ⟨hnone, hnotBlind⟩ := hd
  refine ⟨⟨fun hb => by simp [hnone] at hb, ?_⟩, ?_⟩
  · simp only [reduceCtorEq, iff_false] at hblind
    simp [hblind, hnotBlind]
  · simp only [Custody.total, hold, hwriter rfl, hnone]
    rfl

/-- The claim of an unclassified burst takes the oldest buffer while the capture writer is free, or counts (R60). -/
theorem claimCapture_cases (l : Lane) (s : State) :
    (∃ b rest, s.captureList = b :: rest ∧ (s.lane l).capture = none ∧
        claimCapture l s = (some b, { s with captureList := rest })) ∨
      ∃ c, claimCapture l s = (none, bump l c s) := by
  unfold claimCapture
  split
  · split
    · rename_i b u htake
      obtain ⟨rest, hlist, hwriter, rfl⟩ := takeBuffer_eq_some.mp htake
      exact .inl ⟨b, rest, hlist, hwriter, rfl⟩
    · exact .inr ⟨_, rfl⟩
  · exact .inr ⟨_, rfl⟩

/-- A claimed buffer goes to the decoder. -/
theorem carried_beginCapture {l : Lane} {s : State} {b : Word} {rest : List Word} {w : CaptureWork}
    (hlist : s.captureList = b :: rest) (hwriter : (s.lane l).capture = none) (hfree : (s.custody l).decoder.Free) :
    Carried l s (setDecoder l (.capture w) { s with captureList := rest }) := by
  rintro ⟨-, hblind⟩
  obtain ⟨hnone, hseen⟩ := hfree
  have hcapture : (s.custody l).capture = none := hwriter
  have hlisted : (s.custody l).listed = rest.length + 1 := by simp [State.custody, hlist]
  rw [setDecoder_custody, State.custody_captureList]
  simp only [hseen, iff_false] at hblind
  refine ⟨⟨fun _ => hwriter, ?_⟩, ?_⟩
  · simpa using hblind
  · simp only [Custody.total, hlisted, hnone, hcapture]
    rfl

/-- A claimed buffer goes to the capture writer with the capture's one pair (R43). -/
theorem carried_singleCapture {l : Lane} {s : State} {b : Word} {rest : List Word} (hlist : s.captureList = b :: rest)
    (hwriter : (s.lane l).capture = none) (hfree : (s.custody l).decoder.Free) (start : Moment) (c : Code)
    (pairs : List CapturePair) :
    Carried l s (finishCapture l b start c pairs { s with captureList := rest }) := by
  rintro ⟨-, hblind⟩
  have hnone := hfree.1
  have hcapture : (s.custody l).capture = none := hwriter
  have hlisted : (s.custody l).listed = rest.length + 1 := by simp [State.custody, hlist]
  rw [finishCapture_custody, State.custody_captureList]
  refine ⟨⟨fun hb => by simp [hnone] at hb, hblind⟩, ?_⟩
  simp [Custody.total, hlisted, hnone, hcapture]

/-! ## The blind condition -/

/-- Raising the blind condition returns the buffer of the work it overruns (R33, R56). -/
theorem carried_raiseBlind (l : Lane) (count : Bool) (s : State) : Carried l s (raiseBlind l count s) := by
  rintro ⟨hwriter, hblind⟩
  unfold raiseBlind
  dsimp only
  split
  · rw [State.custody_modLane]
    exact ⟨⟨hwriter, hblind⟩, rfl⟩
  · have hraised : ∀ u : State, u.custody l = s.custody l →
        ((abandonWork l u).modLane l fun x => { x with decoder := .blind, blind := true, echoDue := none }).custody l =
          { s.custody l with listed := (s.custody l).listed + (s.custody l).decoder.buffer.toList.length,
                             decoder := .blind, blind := true } := by
      intro u hu
      rw [← hu, State.custody_modLane, abandonWork_eq]
      simp [State.custody, State.setCaptureList]
    have hsame : (if (count && (s.lane l).decoder.collecting) = true then bump l .collisions s else s).custody l =
        s.custody l := by
      split <;> simp
    rw [hraised _ hsame]
    refine ⟨⟨fun h => by simp [Decoder.buffer] at h, by simp⟩, ?_⟩
    simp [Custody.total, Decoder.buffer]

theorem carried_startTransmission (l : Lane) (forced : Bool) (s : State) :
    Carried l s (startTransmission l forced s) := by
  unfold startTransmission
  split
  · exact carried_refl l s
  · dsimp only
    have hcounted : Carried l s (if forced then bump l .collisions s else s) := by
      refine carried_of_same ?_
      split <;> simp
    generalize (if forced then bump l .collisions s else s) = u at hcounted ⊢
    have hraised : Carried l s (if (u.lane l).settings.mode = .shared then raiseBlind l (!forced) u else u) := by
      split
      · exact hcounted.trans (carried_raiseBlind l _ u)
      · exact hcounted
    exact hraised.trans (carried_of_same (State.custody_modLane l _ _))

theorem carried_huntEntered (l : Lane) (s : State) : Carried l s (huntEntered l s) := by
  unfold huntEntered
  split
  case h_1 => exact carried_startTransmission l false s
  all_goals exact carried_refl l s

/-- A decoder that holds no buffer enters HUNT (R40). -/
theorem carried_enterHunt {l : Lane} {s : State} (hfree : (s.custody l).decoder.Free) : Carried l s (enterHunt l s) :=
  (carried_setDecoder hfree ⟨rfl, by simp⟩).trans (carried_huntEntered l _)

/-! ## Bursts and their ends -/

theorem carried_firstMarkEnds {l : Lane} {s : State} (hfree : (s.custody l).decoder.Free) (start : Moment) (m : Nat) :
    Carried l s (firstMarkEnds l start m s) := by
  unfold firstMarkEnds
  split
  · exact carried_setDecoder hfree ⟨rfl, by simp⟩
  · rcases claimCapture_cases l s with ⟨b, rest, hlist, hwriter, hclaim⟩ | ⟨c, hclaim⟩ <;> simp only [hclaim]
    · exact carried_beginCapture hlist hwriter hfree
    · exact (carried_of_same (bump_custody l c s)).trans
        (carried_setDecoder ((bump_custody l c s).symm ▸ hfree) ⟨rfl, by simp⟩)

theorem carried_brokenInside {l : Lane} {s : State} (hfree : (s.custody l).decoder.Free) (c : Code) (i : SlotId)
    (k : Nat) (start : Moment) (part : PartialFrame) : Carried l s (brokenInside l c i k start part s) := by
  have hsame := custody_of_holdings (frameError_holdings l c i start part s)
  exact (carried_of_same hsame).trans (carried_setDecoder (hsame ▸ hfree) ⟨rfl, by simp⟩)

theorem carried_brokenAtEnd {l : Lane} {s : State} (hfree : (s.custody l).decoder.Free) (c : Code) (i : SlotId)
    (start : Moment) (part : PartialFrame) : Carried l s (brokenAtEnd l c i start part s) := by
  have hsame := custody_of_holdings (frameError_holdings l c i start part s)
  exact (carried_of_same hsame).trans (carried_enterHunt (hsame ▸ hfree))

theorem carried_frameEnds {l : Lane} {s : State} (hfree : (s.custody l).decoder.Free) (i : SlotId) (start : Moment)
    (part : PartialFrame) : Carried l s (frameEnds l i start part s) := by
  unfold frameEnds
  split
  · exact carried_brokenAtEnd hfree _ _ _ _
  · have hsame : ∀ f, (takeGoodFrame l f (bump l .framesGood s)).custody l = s.custody l := by simp
    exact (carried_of_same (hsame _)).trans (carried_enterHunt ((hsame _).symm ▸ hfree))

theorem carried_orphan {l : Lane} {s : State} (hfree : (s.custody l).decoder.Free) (i : SlotId) (k : Nat) :
    Carried l s (orphan l i k s) :=
  (carried_of_same (bump_custody l _ s)).trans
    (carried_setDecoder ((bump_custody l .orphans s).symm ▸ hfree) ⟨rfl, by simp⟩)

/-- What follows the entry into HUNT of an unclassified burst: the mark that ended it is a new leader, or is overrun. -/
theorem carried_newMark (l : Lane) (mark : Option Moment) (s : State) :
    Carried l s (match mark, (s.lane l).decoder with
      | some edge, .hunt _ => setDecoder l (.leader edge) s
      | some _, .blind => markOverrun l s
      | _, _ => s) := by
  split
  · rename_i hd
    have hhunt : (s.custody l).decoder = .hunt _ := hd
    exact carried_setDecoder (by rw [hhunt]; exact ⟨rfl, by simp⟩) ⟨rfl, by simp⟩
  · exact carried_of_same (markOverrun_custody l s)
  · exact carried_refl l s

theorem carried_unclassifiedSpace {l : Lane} {s : State} (hfree : (s.custody l).decoder.Free) (start : Moment)
    (m d : Nat) (mark : Option Moment) : Carried l s (unclassifiedSpace l start m d mark s) := by
  unfold unclassifiedSpace
  rcases claimCapture_cases l s with ⟨b, rest, hlist, hwriter, hclaim⟩ | ⟨c, hclaim⟩ <;> simp only [hclaim]
  · split
    · exact carried_beginCapture hlist hwriter hfree
    · exact ((carried_singleCapture hlist hwriter hfree start .ok _).trans
        (carried_enterHunt (by simpa using hfree))).trans (carried_newMark l mark _)
  · have hcounted := carried_of_same (bump_custody l c s)
    have hstill := (bump_custody l c s).symm ▸ hfree
    split
    · exact hcounted.trans (carried_setDecoder hstill ⟨rfl, by simp⟩)
    · exact (hcounted.trans (carried_enterHunt hstill)).trans (carried_newMark l mark _)

theorem carried_firstSpaceEnds {l : Lane} {s : State} (hfree : (s.custody l).decoder.Free) (start : Moment) (m : Nat)
    (cands : List Candidate) (d : Nat) (edge : Moment) : Carried l s (firstSpaceEnds l start m cands d edge s) := by
  unfold firstSpaceEnds
  split
  · exact carried_setDecoder hfree ⟨rfl, by simp⟩
  · exact carried_setDecoder hfree ⟨rfl, by simp⟩
  · exact carried_orphan hfree _ _
  · exact carried_unclassifiedSpace hfree _ _ _ _

theorem carried_symbolTaken {l : Lane} {s : State} (hfree : (s.custody l).decoder.Free) (start : Moment) (i : SlotId)
    (k d : Nat) (level : Bool) (part : PartialFrame) : Carried l s (symbolTaken l start i k d level part s) := by
  unfold symbolTaken
  split
  · exact carried_setDecoder hfree ⟨rfl, by simp⟩
  · exact carried_brokenInside hfree _ _ _ _ _
  · exact carried_brokenInside hfree _ _ _ _ _

theorem carried_closingMarkEnds {l : Lane} {s : State} (hfree : (s.custody l).decoder.Free) (i : SlotId) (k d : Nat) :
    Carried l s (closingMarkEnds l i k d s) := by
  unfold closingMarkEnds
  dsimp only
  split
  · exact carried_refl l s
  · exact carried_orphan hfree _ _

theorem carried_captureSpace {l : Lane} {s : State} {w : CaptureWork} (h : (s.lane l).decoder = .capture w) (d : Nat) :
    Carried l s (captureSpace l w d s) := by
  unfold captureSpace
  split
  · exact carried_refl l s
  · dsimp only
    split
    · exact carried_continueCapture h rfl
    · exact carried_passCapture h ⟨rfl, by simp⟩ _ _ _ _

/-- A transition, by the decoder's state. -/
theorem carried_takeTransition (l : Lane) (mark : Bool) (edge : Moment) (ended : Option Nat) (s : State) :
    Carried l s (takeTransition l mark edge ended s) := by
  have hfree : ∀ d, (s.lane l).decoder = d → d.Free → (s.custody l).decoder.Free := by
    rintro d rfl h
    exact h
  unfold takeTransition
  split <;> rename_i hd
  case h_1 | h_9 | h_10 => exact carried_refl l s
  case h_2 =>
    split
    · exact carried_of_same (blindMark_custody l edge s)
    · exact carried_refl l s
  case h_3 =>
    split
    · exact carried_setDecoder (hfree _ hd ⟨rfl, by simp⟩) ⟨rfl, by simp⟩
    · exact carried_refl l s
  case h_4 =>
    split
    · exact carried_firstMarkEnds (hfree _ hd ⟨rfl, by simp⟩) _ _
    · exact carried_refl l s
  case h_5 =>
    split
    · exact carried_firstSpaceEnds (hfree _ hd ⟨rfl, by simp⟩) _ _ _ _ _
    · exact carried_refl l s
  case h_6 =>
    split
    · exact carried_symbolTaken (hfree _ hd ⟨rfl, by simp⟩) _ _ _ _ _ _
    · exact carried_refl l s
  case h_7 =>
    split
    · exact carried_closingMarkEnds (hfree _ hd ⟨rfl, by simp⟩) _ _ _
    · exact carried_orphan (hfree _ hd ⟨rfl, by simp⟩) _ _
    · exact carried_refl l s
  case h_8 =>
    split
    · exact carried_refl l s
    · exact carried_enterHunt (hfree _ hd ⟨rfl, by simp⟩)
  case h_11 =>
    split
    · exact carried_continueCapture hd rfl
    · exact carried_captureSpace hd _
    · exact carried_refl l s

/-! ## Crossings -/

/-- A stuck mark's work is abandoned and its buffer returned; the notice carries none (R55). -/
theorem carried_lineStuck {l : Lane} {s : State} (hseen : (s.lane l).decoder ≠ .blind) (edge : Moment) :
    Carried l s (lineStuck l edge s) := by
  rintro ⟨-, hblind⟩
  have hseen : (s.custody l).decoder ≠ .blind := hseen
  have hstuck : (lineStuck l edge s).custody l =
      { s.custody l with listed := (s.custody l).listed + (s.custody l).decoder.buffer.toList.length,
                         decoder := .drain .stuck } := by
    unfold lineStuck
    dsimp only
    rw [setDecoder_custody, custody_of_holdings (enterOutbox_holdings (by simp) l _), State.custody_modLane,
      abandonWork_eq]
    simp [State.custody, State.setCaptureList]
  rw [hstuck]
  simp only [hseen, iff_false] at hblind
  exact ⟨⟨fun h => by simp [Decoder.buffer] at h, by simpa using hblind⟩, by simp [Custody.total, Decoder.buffer]⟩

theorem carried_spaceCrossing (l : Lane) (threshold : Nat) (s : State) :
    Carried l s (spaceCrossing l threshold s) := by
  have hfree : ∀ d, (s.lane l).decoder = d → d.Free → (s.custody l).decoder.Free := by
    rintro d rfl h
    exact h
  unfold spaceCrossing
  split <;> rename_i hd
  case h_1 => exact carried_unclassifiedSpace (hfree _ hd ⟨rfl, by simp⟩) _ _ _ _
  case h_2 =>
    split
    · exact carried_frameEnds (hfree _ hd ⟨rfl, by simp⟩) _ _ _
    · exact carried_brokenAtEnd (hfree _ hd ⟨rfl, by simp⟩) _ _ _ _
    · exact carried_brokenAtEnd (hfree _ hd ⟨rfl, by simp⟩) _ _ _ _
  case h_3 =>
    exact (carried_enterHunt (hfree _ hd ⟨rfl, by simp⟩)).trans
      (carried_of_holdings (takeRepeatCode_holdings l _ _ _))
  case h_4 => exact carried_enterHunt (hfree _ hd ⟨rfl, by simp⟩)
  case h_5 =>
    split
    · exact carried_refl l s
    · exact (carried_passCapture hd ⟨rfl, by simp⟩ _ _ _ _).trans
        (carried_enterHunt (by rw [finishCapture_custody, setDecoder_custody]; exact ⟨rfl, by simp⟩))
  all_goals exact carried_refl l s

/-- A threshold is named by a decoder that is not BLIND (R39), so a crossing meets one. -/
theorem carried_reportCrossings (l : Lane) (cutoff : Moment) (n : Nat) (s : State) :
    Carried l s (reportCrossings l cutoff n s) := by
  induction n generalizing s with
  | zero => exact carried_refl l s
  | succ n ih =>
    unfold reportCrossings
    split
    · exact carried_refl l s
    · rename_i f threshold hcross
      obtain ⟨-, hnamed, -⟩ := crossingBy_eq_some.mp hcross
      refine Carried.trans ?_ (ih _)
      unfold takeCrossing
      split
      · refine carried_lineStuck (fun hd => ?_) _
        rw [namedThreshold_eq hd] at hnamed
        simp [Decoder.limitsMarks, State.spaceNamed] at hnamed
      · exact carried_spaceCrossing l _ s

theorem carried_crossingsNow (l : Lane) (s : State) : Carried l s (crossingsNow l s) := by
  unfold crossingsNow
  split
  · exact carried_refl l s
  · split
    · exact carried_reportCrossings l _ _ s
    · exact carried_refl l s

/-! ## Conditioner -/

theorem carried_restartInput {l : Lane} {s : State} (hfree : (s.custody l).decoder.Free) :
    Carried l s (restartInput l s) := by
  unfold restartInput
  split
  · have hsame : (s.modLane l fun x => { x with filter := some (sampledFilter x s.clock) }).custody l = s.custody l :=
      State.custody_modLane l _ s
    exact (carried_of_same hsame).trans (carried_enterHunt (hsame.symm ▸ hfree))
  · have hsame : (s.modLane l fun x => { x with filter := none, decoder := .off }) =
        setDecoder l .off (s.modLane l fun x => { x with filter := none }) := by
      simp [setDecoder]
      rfl
    have hfilter : (s.modLane l fun x => { x with filter := none }).custody l = s.custody l := State.custody_modLane l _ s
    rw [hsame]
    exact (carried_of_same hfilter).trans (carried_setDecoder (hfilter.symm ▸ hfree) ⟨rfl, by simp⟩)

/-- The withdrawal finds a BLIND decoder, which enters HUNT (R32, R33). -/
theorem carried_withdrawBlind (l : Lane) (s : State) : Carried l s (withdrawBlind l s) := by
  unfold withdrawBlind
  split
  · rename_i hset
    have hunblinded : ∀ f : LaneState → Option InputFilter, Carried l s
        (setDecoder l (.hunt s.clock)
          (s.modLane l fun x => { x with blind := false, echoDue := none, filter := f x })) := by
      rintro f ⟨-, hblind⟩
      have hd : (s.custody l).decoder = .blind := hblind.mp hset
      rw [setDecoder_custody, State.custody_modLane]
      refine ⟨⟨fun h => by simp [Decoder.buffer] at h, by simp⟩, ?_⟩
      simp only [Custody.total, hd]
      rfl
    have hcrossed : ∀ u : State, Carried l u (crossingsAtOnce l u) := by
      intro u
      unfold crossingsAtOnce
      split
      · exact carried_refl l u
      · exact carried_reportCrossings l _ _ u
    exact ((hunblinded _).trans (carried_huntEntered l _)).trans (hcrossed _)
  · exact carried_of_same (State.custody_modLane l _ s)

theorem carried_takeConfirmed (l : Lane) (edge : Moment) (s : State) : Carried l s (takeConfirmed l edge s) := by
  unfold takeConfirmed
  dsimp only
  split
  · exact carried_refl l s
  · exact ((carried_of_same (State.custody_modLane l _ s)).trans (carried_takeTransition l _ _ _ _)).trans
      (carried_crossingsNow l _)

theorem carried_confirmHeld (l : Lane) (s : State) : Carried l s (confirmHeld l s) := by
  unfold confirmHeld
  split
  · exact carried_refl l s
  · exact (carried_reportCrossings l _ _ s).trans (carried_takeConfirmed l _ _)

theorem carried_takePinEdge (l : Lane) (high : Bool) (s : State) : Carried l s (takePinEdge l high s) := by
  have hnoted : ∀ (e : Option Moment) (u : State), Carried l u (setExcursion l e u) := fun e u =>
    carried_of_same (State.custody_modLane l _ u)
  unfold takePinEdge
  split
  · exact carried_refl l s
  · dsimp only
    have hpin : Carried l s (confirmHeld l (s.modLane l fun x => { x with pinHigh := high })) :=
      (carried_of_same (State.custody_modLane l _ s)).trans (carried_confirmHeld l _)
    split
    · exact (hpin.trans (hnoted _ _)).trans (carried_crossingsNow l _)
    · exact (hpin.trans (hnoted _ _)).trans (carried_confirmHeld l _)

end Sys2Proof.Machine
end

section
/-! What a step makes of the part, in terms of its owners: the command unit and the event queues, the bus port, the event
writer, the engine, and each lane. Every command is a chain of such effects, so an invariant that each effect keeps is
kept by every step. -/

namespace Sys2Proof.Machine

open Sys2Proof.Claims

/-! ## Effects -/

/-- Nothing that the lanes, the capture list, the event writer's write in flight, the engine's state or the sequencers'
places at the bus port hold differs. -/
structure Elsewhere (s t : State) : Prop where
  engine : t.engine = s.engine
  lanes : t.lanes = s.lanes
  captureList : t.captureList = s.captureList
  heldCount : t.heldCount = s.heldCount
  inFlight : t.writer.inFlight = s.writer.inFlight
  places : ∀ l : Lane, t.busSlot (.sequencer l) = s.busSlot (.sequencer l)

theorem Elsewhere.lane {s t : State} (h : Elsewhere s t) (l : Lane) : t.lane l = s.lane l :=
  congrArg (fun v : Vector LaneState 4 => v[l.val]) h.lanes

/-- What a happening makes of one lane. -/
inductive LaneEffect (l : Lane) : State → State → Prop
  | changesPin (high : Bool) (s : State) : LaneEffect l s (takePinEdge l high s)
  | confirms (s : State) : LaneEffect l s (confirmHeld l s)
  | crosses (s : State) : LaneEffect l s (crossingsNow l s)
  | closesPress (s : State) : LaneEffect l s (closePress l s)
  | closesGate (s : State) : LaneEffect l s (s.modLane l fun x => { x with gateOpen := false, gateDue := none })
  | clearsCounters (s : State) : LaneEffect l s (s.modLane l fun x => { x with counters := countersReset })
  | unblinds (s : State) : LaneEffect l s (withdrawBlind l s)
  | asksCapture (t : Transaction) (s : State) : LaneEffect l s (askBus (.captureWriter l) t s)
  | captured {s : State} {c : FinishedCapture} (h : (s.lane l).capture = some c) (q : EqId) (busError : Bool) :
      LaneEffect l s (enterOutbox l (captureEvent c q busError) (s.modLane l fun x => { x with capture := none }))
  | changesQueue (f : RequestQueue → RequestQueue) (s : State) :
      LaneEffect l s (s.modLane l fun x => { x with queue := f x.queue })
  | appliesSettings (new : LaneSettings) (command : GateCommand) (s : State) :
      LaneEffect l s
        (restartInput l ((quietDecoder l (settlePressAndGate l new command s)).modLane l fun x => { x with settings := new }))
  | fetches {s : State} (h : (s.lane l).seq.state = .idle) : LaneEffect l s (beginFetch l s)
  | takes {s : State} (h : Outstanding s (.sequencer l) .requestEntry) (e : RequestEntry) :
      LaneEffect l s (takeEntry l e (s.setBus (.sequencer l) .idle))
  | faults {s : State} (h : Outstanding s (.sequencer l) .requestEntry) (f : LaneState → RequestQueue)
      (g : LaneState → Option AbortWork) (c : Completion) :
      LaneEffect l s
        (complete l c ((s.setBus (.sequencer l) .idle).modLane l fun x =>
          { x with queue := f x, seq := { x.seq with abort := g x } }))
  | activates (s : State) : LaneEffect l s (activationTaken l s)
  | listed {s : State} {r : ActiveRequest} (h : Outstanding s (.sequencer l) (.pairList false))
      (hr : (s.lane l).seq.active = some r) (pairs : List RawPair) :
      LaneEffect l s (listArrives l r pairs (s.setBus (.sequencer l) .idle))
  | unlisted {s : State} (h : Outstanding s (.sequencer l) (.pairList false)) (r : ActiveRequest) (c : Code) :
      LaneEffect l s (finish l r c 0 (s.setBus (.sequencer l) .idle))
  | asksEntry {s : State} (h : (s.lane l).seq.state = .fetch) (hplace : s.busSlot (.sequencer l) ≠ .idle)
      (q : RequestQueue) :
      LaneEffect l s (askBus (.sequencer l) (entryRead q) (s.setBus (.sequencer l) .idle))
  | spaces (s : State) : LaneEffect l s (spacingExpires l s)
  | ends (s : State) : LaneEffect l s (transmissionEnds l s)
  | defers (s : State) : LaneEffect l s (deferExpires l s)
  | limits (s : State) : LaneEffect l s (holdLimitExpires l s)
  | replies (s : State) : LaneEffect l s (replyExpires l s)
  | releases {s t : State} {tag : Half} (h : releaseHold l tag s = some t) : LaneEffect l s t
  | aborts (flush : Bool) (s : State) : LaneEffect l s (abortInHand l flush s).1
  | notesAbort (work : Option AbortWork) (s : State) : LaneEffect l s (s.modSeq l fun q => { q with abort := work })

/-- What a command makes of the part. -/
inductive Effect : State → State → Prop
  | elsewhere {s t : State} (h : Elsewhere s t) : Effect s t
  | lane {s t : State} {l : Lane} (h : LaneEffect l s t) : Effect s t
  | chooses (s : State) : Effect s (chooseEvent s)
  | frees (c : BusClient) (s : State) : Effect s (s.setBus c .idle)
  | grants (s : State) : Effect s (startTransaction s)
  | reachesOff (s : State) : Effect s (reachOff s)
  | stops (s : State) : Effect s (stopBlocks s)
  | resets (s : State) : Effect s (resetBlocks s)
  | powersOn (s : State) : Effect s (powerOn s)
  | runs (s : State) : Effect s (enterRunning s)
  | posts {s t : State} {address : Word} (h : postBuffer address s = some t) : Effect s t
  | resetsLane (l : Lane) (s : State) : Effect s (resetLane l s)
  | writesOver (w : Writer) (s : State) : Effect s (writeOver w s)
  | completes {s : State} {l : Lane} {q : EqId} (h : s.writer.inFlight = some (.sequencer l, q)) :
      Effect s ((writeOver (.sequencer l) s).modSeq l fun q => { q with state := .idle, active := none, completion := none })
  | leaves (l : Lane) (s : State) : Effect s (leaveOutbox l s)
  | drops (l : Lane) (s : State) : Effect s (dropSettling l s)

/-- A chain of effects. -/
abbrev Effects : State → State → Prop := Relation.ReflTransGen Effect

theorem Effects.keep {P : State → Prop} (hP : ∀ s t, Effect s t → P s → P t) {s t : State} (h : Effects s t)
    (hs : P s) : P t := by
  induction h with
  | refl => exact hs
  | tail _ heffect ih => exact hP _ _ heffect ih

theorem Effect.then {s t u : State} (h : Effect s t) (k : Effects t u) : Effects s u := .head h k

theorem effects_lane {l : Lane} {s t : State} (h : LaneEffect l s t) : Effects s t := .single (.lane h)

theorem effects_elsewhere {s t : State} (h : Elsewhere s t) : Effects s t := .single (.elsewhere h)

/-- An effect on a lane is one on that lane, the capture list, hit counts and the lane's places at the bus port alone. -/
theorem LaneEffect.onlyLane {l : Lane} {s t : State} (h : LaneEffect l s t) : OnlyLane l s t := by
  have hfree : OnlyLane l s (s.setBus (.sequencer l) .idle) := onlyLane_setBus (.inl rfl) _ s
  cases h with
  | changesPin high => exact onlyLane_takePinEdge l high s
  | confirms => exact onlyLane_confirmHeld l s
  | crosses => exact onlyLane_crossingsNow l s
  | closesPress => exact onlyLane_closePress l s
  | closesGate => exact onlyLane_modLane l _ s
  | clearsCounters => exact onlyLane_modLane l _ s
  | unblinds => exact onlyLane_withdrawBlind l s
  | asksCapture tr => exact onlyLane_askCapture l tr s
  | captured h q busError => exact (onlyLane_modLane l _ s).trans (onlyLane_enterOutbox l _ _)
  | changesQueue f => exact onlyLane_modLane l _ s
  | appliesSettings new command =>
    exact (((onlyLane_settlePressAndGate l new command s).trans (onlyLane_quietDecoder l _)).trans
      (onlyLane_modLane l _ _)).trans (onlyLane_restartInput l _)
  | fetches h => exact onlyLane_beginFetch l s
  | takes h e => exact hfree.trans (onlyLane_takeEntry l e _)
  | faults h f g c => exact (hfree.trans (onlyLane_modLane l _ _)).trans (onlyLane_complete l c _)
  | activates => exact onlyLane_activationTaken l s
  | listed h hr pairs => exact hfree.trans (onlyLane_listArrives l _ pairs _)
  | unlisted h r c => exact hfree.trans (onlyLane_finish l r c 0 _)
  | asksEntry h hplace q => exact hfree.trans (onlyLane_askSequencer l _ _)
  | spaces => exact onlyLane_spacingExpires l s
  | ends => exact onlyLane_transmissionEnds l s
  | defers => exact onlyLane_deferExpires l s
  | limits => exact onlyLane_holdLimitExpires l s
  | replies => exact onlyLane_replyExpires l s
  | releases h => exact onlyLane_releaseHold h
  | aborts flush => exact onlyLane_abortInHand l flush s
  | notesAbort work => exact onlyLane_modSeq l _ s

/-! ## Outside the lanes -/

theorem elsewhere_setBus {s : State} {c : BusClient} (h : ∀ l, c ≠ .sequencer l) (x : BusSlot) :
    Elsewhere s (s.setBus c x) :=
  ⟨rfl, rfl, rfl, rfl, rfl, fun l => State.setBus_busSlot_ne s x (h l).symm⟩

theorem elsewhere_askBus {s : State} {c : BusClient} (h : ∀ l, c ≠ .sequencer l) (t : Transaction) :
    Elsewhere s (askBus c t s) := by
  rcases askBus_cases c t s with ⟨-, hask⟩ | ⟨-, hask⟩ <;> rw [hask]
  · exact elsewhere_setBus h _
  · exact ⟨rfl, rfl, rfl, rfl, rfl, fun _ => rfl⟩

theorem elsewhere_setAdmin (x : AdminState) (s : State) : Elsewhere s (setAdmin x s) :=
  ⟨rfl, rfl, rfl, rfl, rfl, fun _ => rfl⟩

theorem elsewhere_setEq (q : EqId) (x : EventQueue) (s : State) : Elsewhere s (s.setEq q x) :=
  ⟨rfl, rfl, rfl, rfl, rfl, fun _ => rfl⟩

theorem elsewhere_setSlot (i : SlotId) (x : Slot) (s : State) : Elsewhere s (s.setSlot i x) :=
  ⟨rfl, rfl, rfl, rfl, rfl, fun _ => rfl⟩

theorem elsewhere_setEntry (i : EntryId) (x : MatchEntry) (s : State) : Elsewhere s (s.setEntry i x) :=
  ⟨rfl, rfl, rfl, rfl, rfl, fun _ => rfl⟩

theorem elsewhere_matchTable (table : Vector MatchEntry 64) (s : State) : Elsewhere s { s with matchTable := table } :=
  ⟨rfl, rfl, rfl, rfl, rfl, fun _ => rfl⟩

theorem elsewhere_admin (unit : CommandUnit) (s : State) : Elsewhere s { s with admin := unit } :=
  ⟨rfl, rfl, rfl, rfl, rfl, fun _ => rfl⟩

theorem effects_postDone (c : Code) (tag : Half) (p : Byte) (d : Nat) (s : State) : Effects s (postDone c tag p d s) :=
  effects_elsewhere (elsewhere_setAdmin _ s)

theorem effects_setAdmin_ask (x : AdminState) (t : Transaction) (s : State) :
    Effects s (askBus .commandUnit t (setAdmin x s)) :=
  (Effect.elsewhere (elsewhere_setAdmin x s)).then (effects_elsewhere (elsewhere_askBus (fun _ => by simp) t))

theorem effects_adminFetchCheck (s : State) : Effects s (adminFetchCheck s) := by
  unfold adminFetchCheck
  split
  · split
    · exact .refl
    · exact effects_setAdmin_ask _ _ s
  · exact .refl

theorem effects_settleStopping (s : State) : Effects s (settleStopping s) := by
  unfold settleStopping
  split
  · exact .refl
  · exact .single (.reachesOff s)

/-- The end of a transaction frees its client's place in STOPPING, and in RUNNING is what the client makes of it. -/
theorem effects_endTransaction {s : State} {c : BusClient} {wanted : Purpose → Bool} {act : Transaction → State → State}
    (hact : ∀ t, s.engine = .running → s.busSlot c = .outstanding t → wanted t.purpose = true →
      Effects s (act t (s.setBus c .idle))) : Effects s (endTransaction c wanted act s) := by
  rcases endTransaction_cases c wanted act s with ⟨t, hplace, hwanted, ⟨hrun, hend⟩ | ⟨-, hend⟩⟩ | hend
  · exact hend ▸ hact t hrun hplace hwanted
  · exact hend ▸ (Effect.frees c s).then (effects_settleStopping _)
  · rw [hend]

/-- A transaction whose client looks at its state alone. -/
theorem effects_endTransaction_free {s : State} {c : BusClient} {wanted : Purpose → Bool}
    {act : Transaction → State → State} (hact : ∀ t u, Effects u (act t u)) :
    Effects s (endTransaction c wanted act s) :=
  effects_endTransaction fun t _ _ _ => (Effect.frees c s).then (hact t _)

/-! ## Lanes -/

theorem effects_fetchCheck (l : Lane) (s : State) : Effects s (fetchCheck l s) := by
  unfold fetchCheck
  split
  · rename_i h
    exact effects_lane (.fetches (mayFetch_iff.mp h).1)
  · exact .refl

theorem effects_reportAbort (l : Lane) (n : Nat) (s : State) : Effects s (reportAbort l n s) := by
  have hnoted : Effects s (s.modSeq l fun q => { q with abort := none }) := effects_lane (.notesAbort none s)
  unfold reportAbort
  dsimp only
  split
  case h_1 =>
    split
    · exact (hnoted.trans (.single (.resetsLane l _))).trans (effects_postDone _ _ _ _ _)
    · exact hnoted.trans (effects_postDone _ _ _ _ _)
  all_goals exact hnoted

theorem effects_abortLane (tag : Half) (l : Lane) (flush reset : Bool) (s : State) :
    Effects s (abortLane tag l flush reset s) := by
  have hcaught := (Effect.elsewhere (elsewhere_setAdmin (.executing tag (.laneAbort l reset)) s)).then
    (effects_lane (.aborts (l := l) flush _))
  unfold abortLane
  dsimp only
  generalize abortInHand l flush (setAdmin (.executing tag (.laneAbort l reset)) s) = caught at hcaught ⊢
  generalize (if flush then _ else 0) = entries
  split
  · exact hcaught.trans (effects_reportAbort l 0 _)
  · have hnoted := hcaught.trans
      (effects_lane (.notesAbort (l := l) (some { remaining := entries, aborted := caught.2 }) caught.1))
    split
    · rename_i hidle
      exact hnoted.trans (effects_lane (.fetches hidle))
    all_goals exact hnoted

theorem effects_setLaneChecked (tag : Half) (a : LaneArgs) (s : State) : Effects s (setLaneChecked tag a s) := by
  unfold setLaneChecked
  dsimp only
  split
  · exact effects_postDone _ _ _ _ s
  · split
    · exact effects_postDone _ _ _ _ s
    · split
      · exact effects_postDone _ _ _ _ s
      · refine .trans ?_ (effects_postDone _ _ _ _ _)
        unfold applySettings
        dsimp only
        split
        · exact (effects_lane (.appliesSettings _ _ s)).trans (effects_fetchCheck _ _)
        · exact effects_lane (.appliesSettings _ _ s)

theorem effects_claimRequestQueue {l : Lane} {a : RequestQueueArgs} {s t : State}
    (h : claimRequestQueue l a s = some t) : Effects s t := by
  unfold claimRequestQueue at h
  dsimp only at h
  rw [Option.ite_none_right_eq_some] at h
  rw [← Option.some.inj h.2]
  exact effects_lane (.changesQueue (fun _ => _) s)

theorem effects_noticeRequestQueue {l : Lane} {tail : Nat} {s t : State} (h : noticeRequestQueue l tail s = some t) :
    Effects s t := by
  unfold noticeRequestQueue at h
  dsimp only at h
  split at h
  · cases h
  all_goals
    rw [Option.ite_none_right_eq_some] at h
    rw [← Option.some.inj h.2]
    exact (effects_lane (.changesQueue (fun q => { q with tail := tail }) s)).trans (effects_fetchCheck l _)

theorem effects_captureWriteEnds (l : Lane) (busError : Bool) (s : State) :
    Effects s (captureWriteEnds l busError s) := by
  refine effects_endTransaction_free fun t u => ?_
  split
  · exact .refl
  · rename_i c hc
    split
    · exact effects_lane (.asksCapture _ u)
    · exact effects_lane (.captured hc _ busError)

theorem effects_entryReadEnds (l : Lane) (e : RequestEntry) (s : State) : Effects s (entryReadEnds l e s) :=
  effects_endTransaction fun t hrun hplace hwanted =>
    effects_lane (.takes ⟨hrun, t, hplace, beq_iff_eq.mp hwanted⟩ e)

theorem effects_entryReadFails (l : Lane) (s : State) : Effects s (entryReadFails l s) :=
  effects_endTransaction fun t hrun hplace hwanted =>
    effects_lane (.faults ⟨hrun, t, hplace, beq_iff_eq.mp hwanted⟩ _ _ _)

theorem effects_listReadEnds (l : Lane) (result : Option (List RawPair)) (s : State) :
    Effects s (listReadEnds l result s) := by
  unfold listReadEnds
  dsimp only
  split
  · rename_i hactive
    split
    · exact effects_endTransaction fun t hrun hplace hwanted =>
        effects_lane (.listed ⟨hrun, t, hplace, beq_iff_eq.mp hwanted⟩ hactive _)
    · exact .refl
  · exact effects_endTransaction fun t hrun hplace hwanted =>
      effects_lane (.unlisted ⟨hrun, t, hplace, beq_iff_eq.mp hwanted⟩ _ _)
  · rename_i hfetch
    exact effects_endTransaction fun t _ hplace _ =>
      effects_lane (.asksEntry hfetch (by simp [hplace]) _)
  · exact effects_endTransaction_free fun _ _ => .refl

/-! ## The command unit's commands -/

theorem effects_checked {act : State → State} (hact : ∀ u, Effects u (act u)) (tag : Half) (checks : List (Nat × Bool))
    (s : State) : Effects s (checked tag checks act s) := by
  unfold checked
  split
  · exact effects_postDone _ _ _ _ s
  · exact hact s

theorem effects_decided {claim : Option State} {s : State} (hclaim : ∀ t, claim = some t → Effects s t) (tag : Half)
    (refusal : Code) : Effects s (decided tag refusal claim s) := by
  unfold decided
  split
  · exact (hclaim _ rfl).trans (effects_postDone _ _ _ _ _)
  · exact effects_postDone _ _ _ _ s

theorem effects_takeCommand {act : State → State} (hact : ∀ u, Effects u (act u)) (s : State) :
    Effects s (takeCommand act s) :=
  effects_endTransaction_free fun _ u =>
    (Effect.elsewhere (elsewhere_admin _ u)).then
      ((hact _).tail (.chooses _))

theorem effects_takeChecked {act : State → State} (hact : ∀ u, Effects u (act u)) (tag : Half)
    (checks : List (Nat × Bool)) (s : State) : Effects s (takeCommand (checked tag checks act) s) :=
  effects_takeCommand (effects_checked hact tag checks) s

theorem effects_claimEventQueue {q : EqId} {a : EventQueueArgs} {s t : State} (h : claimEventQueue q a s = some t) :
    Effects s t := by
  unfold claimEventQueue at h
  dsimp only at h
  rw [Option.ite_none_right_eq_some] at h
  obtain ⟨-, hset⟩ := h
  split at hset <;> rw [← Option.some.inj hset] <;> exact effects_elsewhere (elsewhere_setEq q _ s)

theorem effects_beginLoad (tag : Half) (slot : Byte) (address : Word) (s : State) :
    Effects s (beginLoad tag slot address s) := by
  unfold beginLoad
  dsimp only
  split
  · exact effects_postDone _ _ _ _ s
  · exact (Effect.elsewhere (elsewhere_setSlot _ _ s)).then (effects_setAdmin_ask _ _ _)

theorem effects_endLoad (tag : Half) (i : SlotId) (record : Option ProfileRecord) (s : State) :
    Effects s (endLoad tag i record s) := by
  have hset : ∀ x c p d, Effects s (postDone c tag p d (s.setSlot i x)) := fun x c p d =>
    (Effect.elsewhere (elsewhere_setSlot i x s)).then (effects_postDone _ _ _ _ _)
  unfold endLoad
  dsimp only
  split
  · exact hset _ _ _ _
  · split <;> exact hset _ _ _ _

theorem effects_clearSlot (tag : Half) (slot : Byte) (s : State) : Effects s (clearSlot tag slot s) := by
  unfold clearSlot
  dsimp only
  split
  · exact effects_postDone _ _ _ _ s
  · exact (Effect.elsewhere (elsewhere_setSlot _ _ s)).then (effects_postDone _ _ _ _ _)

theorem effects_endCounters (tag : Half) (source : CounterSource) (clear busError : Bool) (s : State) :
    Effects s (endCounters tag source clear busError s) := by
  have hcleared : Effects s (clearCounters source s) := by
    unfold clearCounters
    cases source with
    | lane l => exact effects_lane (.clearsCounters s)
    | hits first count => exact effects_elsewhere (elsewhere_matchTable _ s)
  unfold endCounters
  split
  · exact effects_postDone _ _ _ _ s
  · split
    · exact hcleared.trans (effects_postDone _ _ _ _ _)
    · exact effects_postDone _ _ _ _ s

/-! ## Event writes -/

theorem effects_completionWritten {l : Lane} {q : EqId} {s : State}
    (h : s.writer.inFlight = some (.sequencer l, q)) : Effects s (completionWritten l (writeOver (.sequencer l) s)) := by
  have hover := Effect.completes h
  unfold completionWritten
  dsimp only
  split
  · exact hover.then (effects_fetchCheck l _)
  · split
    · exact hover.then ((effects_reportAbort l _ _).trans (effects_fetchCheck l _))
    · exact hover.then (effects_lane (.fetches (by simp)))

theorem effects_writerServed {w : Writer} {q : EqId} {s : State} (h : s.writer.inFlight = some (w, q)) :
    Effects s (writerServed w (writeOver w s)) := by
  have hover : Effect s (writeOver w s) := .writesOver w s
  unfold writerServed
  cases w with
  | commandUnit =>
    exact (hover.then (effects_elsewhere (elsewhere_setAdmin .idle _))).trans (effects_adminFetchCheck _)
  | sequencer l => exact effects_completionWritten h
  | outbox l => exact hover.then (.single (.leaves l _))

theorem effects_eventWritten (s : State) : Effects s (eventWritten s) := by
  refine effects_endTransaction_free fun _ u => ?_
  split
  · exact .refl
  · rename_i w q hflight
    exact (Effect.elsewhere (elsewhere_setEq q _ u)).then
      ((effects_writerServed (s := u.setEq q ((u.eq q).written u.clock)) hflight).tail (.chooses _))

theorem effects_eventFailed (s : State) : Effects s (eventFailed s) := by
  refine effects_endTransaction_free fun _ u => ?_
  split
  · exact .refl
  · rename_i w q _
    have hover := (Effect.elsewhere (elsewhere_setEq q (u.eq q).failed u)).then (.single (.writesOver w _))
    cases w with
    | commandUnit => exact hover.tail (.chooses _)
    | sequencer l => exact hover.tail (.chooses _)
    | outbox l => exact (hover.tail (.drops l _)).tail (.chooses _)

/-! ## Register writes -/

theorem effects_writeControl (word : Word) (s : State) : Effects s (writeControl word s) := by
  have hirq : Effect s { s with irqEnable := word.getLsbD 2 } := .elsewhere ⟨rfl, rfl, rfl, rfl, rfl, fun _ => rfl⟩
  unfold writeControl
  split
  · exact (Effect.resets s).then (effects_settleStopping _)
  · dsimp only
    split
    · unfold enableEngine
      split
      · exact hirq.then (.single (.runs _))
      · exact hirq.then (effects_elsewhere ⟨rfl, rfl, rfl, rfl, rfl, fun _ => rfl⟩)
    · exact hirq.then ((Effect.stops _).then (effects_settleStopping _))
    all_goals exact .single hirq

theorem effects_writeStatus (word : Word) (s : State) : Effects s (writeStatus word s) :=
  effects_elsewhere ⟨rfl, rfl, rfl, rfl, rfl, fun _ => rfl⟩

theorem effects_writeAdminBase (word : Word) (s : State) : Effects s (writeAdminBase word s) := by
  unfold writeAdminBase
  split
  · exact effects_elsewhere ⟨rfl, rfl, rfl, rfl, rfl, fun _ => rfl⟩
  all_goals exact .refl

theorem effects_noticeAdminQueue {tail : Nat} {s t : State} (h : noticeAdminQueue tail s = some t) : Effects s t := by
  unfold noticeAdminQueue at h
  split at h
  · cases h
  · rw [Option.ite_none_right_eq_some] at h
    rw [← Option.some.inj h.2]
    exact (Effect.elsewhere (elsewhere_admin _ s)).then (effects_adminFetchCheck _)

/-- A notice that is taken is its effect, and one that is refused sets SUBMIT_ERROR alone (R165). -/
theorem effects_notice {s : State} {notice : Option State} (h : ∀ t, notice = some t → Effects s t) :
    Effects s (notice.getD { s with submitError := true }) := by
  cases notice with
  | none => exact effects_elsewhere ⟨rfl, rfl, rfl, rfl, rfl, fun _ => rfl⟩
  | some t => exact h t rfl

theorem effects_writeSubmit (word : Word) (s : State) : Effects s (writeSubmit word s) := by
  unfold writeSubmit
  dsimp only
  split
  · exact effects_notice fun t => effects_noticeRequestQueue
  · split
    · exact effects_notice fun t => effects_noticeAdminQueue
    · exact effects_notice fun t h => by cases h

theorem effects_acknowledge (word : Word) (s : State) : Effects s (acknowledge word s) := by
  have hrefused : Effects s { s with ackError := true } :=
    effects_elsewhere ⟨rfl, rfl, rfl, rfl, rfl, fun _ => rfl⟩
  unfold acknowledge
  dsimp only
  split
  · split
    · exact hrefused
    · exact (effects_elsewhere (elsewhere_setEq _ _ s)).tail (.chooses _)
  · exact hrefused

theorem effects_hostWrite (offset width : Nat) (word : Word) (s : State) : Effects s (hostWrite offset width word s) := by
  unfold hostWrite
  split
  · split
    · exact effects_writeControl word s
    · exact effects_writeStatus word s
    · exact effects_writeAdminBase word s
    · exact effects_writeSubmit word s
    · exact effects_acknowledge word s
    · exact .refl
  · exact .refl

/-! ## Commands and steps -/

theorem effects_lane_choice {l : Lane} {s t : State} (h : LaneEffect l s t) : Effects s (chooseEvent t) :=
  (effects_lane h).tail (.chooses t)

/-- Every command is a chain of effects. -/
theorem effects_of_exec {c : Instr} {s t : State} (hexec : exec c s = .next t) : Effects s t := by
  cases c <;> cases hexec
  case powerOnReset => exact .single (.powersOn s)
  case engineReset word => exact effects_writeControl word s
  case enable word => exact effects_writeControl word s
  case engineStop word => exact effects_writeControl word s
  case irqEnableWrite word => exact effects_writeControl word s
  case submitErrorClear word => exact effects_writeStatus word s
  case ackErrorClear word => exact effects_writeStatus word s
  case adminFaultClear word => exact effects_writeStatus word s
  case adminBaseWrite word => exact effects_writeAdminBase word s
  case submit word => exact effects_writeSubmit word s
  case eventAck word => exact effects_acknowledge word s
  case clearNotice word => exact effects_acknowledge word s
  case registerWriteIgnored offset width word => exact effects_hostWrite offset width word s
  case busGrant =>
    split
    · exact .single (.grants s)
    all_goals exact .refl
  case stoppingTransactionEnd client busError =>
    split
    · exact effects_endTransaction_free fun _ _ => .refl
    all_goals exact .refl
  case adminReadError =>
    exact effects_endTransaction_free fun _ _ => effects_elsewhere ⟨rfl, rfl, rfl, rfl, rfl, fun _ => rfl⟩
  case unknownCommand command tag =>
    split
    · exact .refl
    · exact effects_takeCommand (effects_postDone _ _ _ _) s
  case nop tag => exact effects_takeCommand (effects_postDone _ _ _ _) s
  case setEventQueue tag a =>
    exact effects_takeChecked (fun u => effects_decided (fun t => effects_claimEventQueue) _ _) _ _ s
  case setRequestQueue tag a =>
    exact effects_takeChecked (fun u => effects_decided (fun t => effects_claimRequestQueue) _ _) _ _ s
  case loadProfile tag slot address => exact effects_takeChecked (effects_beginLoad tag slot address) _ _ s
  case profileRecordReadEnd record =>
    refine effects_endTransaction_free fun _ u => ?_
    split
    · exact (effects_endLoad _ _ record u).tail (.chooses _)
    · exact .refl
  case clearProfile tag slot => exact effects_takeChecked (effects_clearSlot tag slot) _ _ s
  case loadFilter tag a =>
    exact effects_takeChecked (fun u =>
      (Effect.elsewhere (elsewhere_setEntry _ _ u)).then (effects_postDone _ _ _ _ _)) _ _ s
  case setLane tag a => exact effects_takeChecked (effects_setLaneChecked tag a) _ _ s
  case abortLane tag l scope => exact effects_takeChecked (effects_abortLane _ _ _ _) _ _ s
  case resetLane tag l => exact effects_takeChecked (effects_abortLane _ _ _ _) _ _ s
  case release tag l holdTag =>
    exact effects_takeChecked (fun u => effects_decided (fun t h => effects_lane (.releases h)) _ _) _ _ s
  case postCaptureBuffer tag address =>
    exact effects_takeChecked (fun u => effects_decided (fun t h => .single (.posts h)) _ _) _ _ s
  case readCounters tag a => exact effects_takeChecked (fun u => effects_setAdmin_ask _ _ u) _ _ s
  case counterBlockWriteEnd busError =>
    refine effects_endTransaction_free fun _ u => ?_
    split
    · exact (effects_endCounters _ _ _ _ u).tail (.chooses _)
    · exact .refl
  case pinEdge l high => exact effects_lane_choice (.changesPin high s)
  case transitionConfirm l => exact effects_lane_choice (.confirms s)
  case thresholdCrossing l => exact effects_lane_choice (.crosses s)
  case captureWriteEnd l busError => exact (effects_captureWriteEnds l busError s).tail (.chooses _)
  case repeatWindowExpiry l =>
    split
    · exact .refl
    · split
      · exact effects_lane_choice (.closesPress s)
      · exact .refl
  case gateWindowExpiry l =>
    split
    · exact effects_lane (.closesGate s)
    · exact .refl
  case echoGuardExpiry l =>
    split
    · exact effects_lane_choice (.unblinds s)
    · exact .refl
  case requestEntryReadEnd l e => exact (effects_entryReadEnds l e s).tail (.chooses _)
  case requestReadError l => exact (effects_entryReadFails l s).tail (.chooses _)
  case activation l => exact effects_lane_choice (.activates s)
  case pairListReadEnd l pairs => exact (effects_listReadEnds l pairs s).tail (.chooses _)
  case spacingTimerExpiry l => exact effects_lane (.spaces s)
  case transmissionEnd l => exact effects_lane_choice (.ends s)
  case deferTimerExpiry l => exact effects_lane_choice (.defers s)
  case holdLimitExpiry l => exact effects_lane_choice (.limits s)
  case replyWindowExpiry l => exact effects_lane_choice (.replies s)
  case eventWriteEnd => exact effects_eventWritten s
  case eventWriteError => exact effects_eventFailed s
  case holdoffExpiry q =>
    split
    · exact effects_elsewhere (elsewhere_setEq q _ s)
    · exact .refl

/-- An invariant that every effect keeps is kept by every step. -/
theorem step_keeps {P : State → Prop} (hP : ∀ s t, Effect s t → P s → P t) {s t : State} (hs : P s)
    (hstep : step s = .next t) : P t := by
  rcases step_cases hstep with ⟨c, rest, hexec⟩ | rfl
  · refine (effects_of_exec hexec).keep hP (hP s _ (.elsewhere ?_) hs)
    exact ⟨rfl, rfl, rfl, rfl, rfl, fun _ => rfl⟩
  · refine hP s _ (.elsewhere ?_) hs
    unfold tick
    split <;> exact ⟨rfl, rfl, rfl, rfl, rfl, fun _ => rfl⟩

end Sys2Proof.Machine
end

section
/-! Every step keeps the account of the posted capture buffers (R33, R59, R60, R63). -/

namespace Sys2Proof.Machine

open Sys2Proof.Claims

/-! ## The account, lane by lane -/

/-- The buffers in the list and with the lanes. -/
def State.posted (s : State) : Nat := s.captureList.length + ((allLanes.map fun l => (s.lane l).buffersHeld).sum)

theorem buffersAccounted_iff {s : State} :
    BuffersAccounted s ↔ s.posted = s.heldCount ∧ s.heldCount ≤ 16 ∧ ∀ l, (s.custody l).Sound := Iff.rfl

theorem custody_total (s : State) (l : Lane) :
    (s.custody l).total = s.captureList.length + (s.lane l).buffersHeld := by
  simp only [Custody.total, State.custody, LaneState.buffersHeld, Outbox.captures]
  omega

theorem posted_eq (s : State) :
    s.posted = s.captureList.length + ((s.lane 0).buffersHeld + (s.lane 1).buffersHeld + (s.lane 2).buffersHeld +
      (s.lane 3).buffersHeld) := by
  simp only [State.posted, allLanes, List.map_cons, List.map_nil, List.sum_cons, List.sum_nil]
  omega

/-- When one lane differs, the buffers posted differ as those of that lane and of the list do. -/
theorem posted_add_total {l : Lane} {s t : State} (hlanes : ∀ l', l' ≠ l → t.lane l' = s.lane l') :
    t.posted + (s.custody l).total = s.posted + (t.custody l).total := by
  simp only [posted_eq, custody_total]
  have hothers := fun l' (h : l' ≠ l) => congrArg LaneState.buffersHeld (hlanes l' h)
  fin_cases l
  · have h1 := hothers 1 (by decide); have h2 := hothers 2 (by decide); have h3 := hothers 3 (by decide)
    simp only [Fin.zero_eta]; omega
  · have h0 := hothers 0 (by decide); have h2 := hothers 2 (by decide); have h3 := hothers 3 (by decide)
    simp only [Fin.mk_one]; omega
  · have h0 := hothers 0 (by decide); have h1 := hothers 1 (by decide); have h3 := hothers 3 (by decide)
    simp only [Fin.reduceFinMk]; omega
  · have h0 := hothers 0 (by decide); have h1 := hothers 1 (by decide); have h2 := hothers 2 (by decide)
    simp only [Fin.reduceFinMk]; omega

theorem custody_of_lane {s t : State} {l : Lane} (hlane : t.lane l = s.lane l) :
    t.custody l = { s.custody l with listed := t.captureList.length } := by
  simp [State.custody, hlane]

/-- One lane has changed, the held count with the buffers it and the list hold. -/
theorem BuffersAccounted.of_lane {l : Lane} {s t : State} (h : BuffersAccounted s)
    (hlanes : ∀ l', l' ≠ l → t.lane l' = s.lane l') (hsound : (t.custody l).Sound)
    (hheld : t.heldCount + (s.custody l).total = s.heldCount + (t.custody l).total) (hmost : t.heldCount ≤ 16) :
    BuffersAccounted t := by
  obtain ⟨hposted, -, hlanesSound⟩ := buffersAccounted_iff.mp h
  have htotal := posted_add_total (s := s) (t := t) hlanes
  refine buffersAccounted_iff.mpr ⟨by omega, hmost, fun l' => ?_⟩
  by_cases hl : l' = l
  · exact hl ▸ hsound
  · rw [custody_of_lane (hlanes l' hl)]
    exact hlanesSound l'

/-- One lane has changed, and it passed every buffer on. -/
theorem BuffersAccounted.of_carried {l : Lane} {s t : State} (h : BuffersAccounted s)
    (hlanes : ∀ l', l' ≠ l → t.lane l' = s.lane l') (hheld : t.heldCount = s.heldCount) (hcarried : Carried l s t) :
    BuffersAccounted t := by
  obtain ⟨-, hmost, hlanesSound⟩ := buffersAccounted_iff.mp h
  obtain ⟨hsound, htotal⟩ := hcarried (hlanesSound l)
  exact h.of_lane hlanes hsound (by rw [hheld, htotal]) (hheld ▸ hmost)

theorem BuffersAccounted.of_same {s t : State} (h : BuffersAccounted s) (hlanes : t.lanes = s.lanes)
    (hlist : t.captureList = s.captureList) (hheld : t.heldCount = s.heldCount) : BuffersAccounted t := by
  have hlane : ∀ l, t.lane l = s.lane l := fun l => congrArg (fun v : Vector LaneState 4 => v[l.val]) hlanes
  exact h.of_carried (l := 0) (fun l' _ => hlane l') hheld
    (carried_of_same (by rw [custody_of_lane (hlane 0), hlist]; rfl))

/-- Nothing is posted and no lane holds anything: an engine stop, a reset or ENABLE leaves the part so (R59). -/
theorem buffersAccounted_of_empty {s : State} (hlist : s.captureList = []) (hheld : s.heldCount = 0)
    (hlanes : ∀ l, (s.lane l).buffersHeld = 0 ∧ (s.custody l).Sound) : BuffersAccounted s := by
  refine buffersAccounted_iff.mpr ⟨?_, by omega, fun l => (hlanes l).2⟩
  simp [posted_eq, hlist, hheld, (hlanes _).1]

/-! ## Effects on a lane -/

/-- The end of a capture's write passes the buffer from the capture writer to the outbox, or back to the list (R58, R63). -/
theorem carried_captured {l : Lane} {s : State} {c : FinishedCapture} (h : (s.lane l).capture = some c) (q : EqId)
    (busError : Bool) :
    Carried l s (enterOutbox l (captureEvent c q busError) (s.modLane l fun x => { x with capture := none })) := by
  rintro ⟨-, hblind⟩
  have hevent : ∀ lost, RxEvent.isCapture { captureEvent c q busError with lost := lost } = true := fun _ => rfl
  have hcapture : (s.custody l).capture = some c := h
  rcases enterOutbox_cases l (captureEvent c q busError) (s.modLane l fun x => { x with capture := none }) with
    ⟨-, hentered⟩ | ⟨-, hfull⟩
  · rw [hentered]
    refine ⟨⟨fun _ => by simp, by simpa [State.custody] using hblind⟩, ?_⟩
    simp [State.custody, Custody.total, Outbox.captures, hevent, h]
    omega
  · rw [hfull, State.custody_captureList, bump_custody]
    refine ⟨⟨fun _ => by simp, by simpa [State.custody] using hblind⟩, ?_⟩
    simp [State.custody, Custody.total, Outbox.captures, h, captureEvent]
    omega

/-- The decoder's buffer goes back to the list, and the decoder is OFF (R151). -/
theorem carried_quietDecoder (l : Lane) (s : State) : Carried l s (quietDecoder l s) := by
  rintro ⟨-, -⟩
  unfold quietDecoder
  rw [State.custody_modLane, abandonWork_eq]
  refine ⟨⟨fun h => by simp [Decoder.buffer] at h, by simp⟩, ?_⟩
  simp [Custody.total, State.custody, State.setCaptureList, Decoder.buffer]

theorem carried_appliesSettings (l : Lane) (new : LaneSettings) (command : GateCommand) (s : State) :
    Carried l s
      (restartInput l ((quietDecoder l (settlePressAndGate l new command s)).modLane l fun x => { x with settings := new })) := by
  have hpress : Carried l s (settlePressAndGate l new command s) := by
    unfold settlePressAndGate
    dsimp only
    split
    · exact (carried_of_holdings (closePress_holdings l s)).trans (carried_of_same (State.custody_modLane l _ _))
    · exact carried_of_same (State.custody_modLane l _ s)
  have hquiet := hpress.trans (carried_quietDecoder l _)
  have hset := hquiet.trans (carried_of_same (State.custody_modLane l (fun x => { x with settings := new }) _))
  refine hset.trans (carried_restartInput ?_)
  simp [quietDecoder, Decoder.Free, Decoder.buffer]

@[simp] theorem afterTransmission_custody (l : Lane) (r : ActiveRequest) (s : State) :
    (afterTransmission l r s).custody l = s.custody l := by
  unfold afterTransmission
  split
  · split <;> exact State.custody_modSeq l _ s
  · split <;> exact State.custody_modSeq l _ s
  · split <;> exact State.custody_modSeq l _ s
  · exact State.custody_modSeq l _ s

theorem carried_leaveLine (l : Lane) (r : ActiveRequest) (s : State) : Carried l s (leaveLine l r s) := by
  have hleft : Carried l s (s.modLane l fun x =>
      { x with tx := none, seq := { x.seq with lineFree := some (s.clock + s.gapAfter r) } }) :=
    carried_of_same (State.custody_modLane l _ s)
  unfold leaveLine
  dsimp only
  split
  · refine hleft.trans ?_
    unfold startEchoGuard
    dsimp only
    split
    · exact carried_withdrawBlind l _
    · exact carried_of_same (State.custody_modLane l _ _)
  · exact hleft

theorem carried_transmissionEnds (l : Lane) (s : State) : Carried l s (transmissionEnds l s) := by
  unfold transmissionEnds
  dsimp only
  split
  · split
    · exact (carried_leaveLine l _ s).trans (carried_of_same (afterTransmission_custody l _ _))
    · exact carried_refl l s
  · exact carried_refl l s

theorem carried_spacingExpires (l : Lane) (s : State) : Carried l s (spacingExpires l s) := by
  unfold spacingExpires
  dsimp only
  split
  · split
    · split
      · unfold deferOrStart
        dsimp only
        split
        · exact carried_of_same (State.custody_modSeq l _ s)
        · exact carried_startTransmission l false s
      · exact carried_startTransmission l false s
    · exact carried_startTransmission l false s
    · exact carried_refl l s
  · exact carried_refl l s

theorem carried_deferExpires (l : Lane) (s : State) : Carried l s (deferExpires l s) := by
  unfold deferExpires
  dsimp only
  split
  · split
    · split
      · exact carried_of_same (State.custody_modSeq l _ s)
      · exact carried_startTransmission l true s
    · exact carried_refl l s
  · exact carried_refl l s

@[simp] theorem discardListRead_custody (l : Lane) (s : State) : (discardListRead l s).custody l = s.custody l := by
  unfold discardListRead
  dsimp only
  split <;> rfl

theorem carried_abortActive (l : Lane) (r : ActiveRequest) (s : State) : Carried l s (abortActive l r s) := by
  have hcause : Carried l s (setEndCause l r none (discardListRead l s)) :=
    carried_of_same ((State.custody_modSeq l _ _).trans (discardListRead_custody l s))
  have hfinished : ∀ u, Carried l u (finish l r .aborted 0 u) := fun u => carried_of_same (State.custody_modSeq l _ u)
  unfold abortActive
  dsimp only
  split
  · exact hcause.trans (hfinished _)
  · exact (hcause.trans (carried_leaveLine l r _)).trans (hfinished _)

/-- The sequencer's own happenings touch no buffer. -/
theorem releaseHold_custody {l : Lane} {tag : Half} {s t : State} (h : releaseHold l tag s = some t) :
    t.custody l = s.custody l := by
  unfold releaseHold at h
  dsimp only at h
  split at h
  · cases h
  · split at h <;> cases h
    · exact State.custody_modSeq l _ s
    all_goals exact (State.custody_modSeq l _ _).trans (State.custody_modSeq l _ s)

/-- Every effect on a lane passes its buffers on. -/
theorem carried_of_laneEffect {l : Lane} {s t : State} (h : LaneEffect l s t) : Carried l s t := by
  cases h with
  | changesPin high => exact carried_takePinEdge l high s
  | confirms => exact carried_confirmHeld l s
  | crosses => exact carried_crossingsNow l s
  | closesPress => exact carried_of_holdings (closePress_holdings l s)
  | closesGate => exact carried_of_same (State.custody_modLane l _ s)
  | clearsCounters => exact carried_of_same (State.custody_modLane l _ s)
  | unblinds => exact carried_withdrawBlind l s
  | asksCapture tr => exact carried_of_same (askBus_custody _ tr s l)
  | captured h q busError => exact carried_captured h q busError
  | changesQueue f => exact carried_of_same (State.custody_modLane l _ s)
  | appliesSettings new command => exact carried_appliesSettings l new command s
  | fetches h => exact carried_of_same ((askBus_custody _ _ _ l).trans (State.custody_modSeq l _ s))
  | takes h e =>
    refine carried_of_same ?_
    unfold takeEntry answer complete countFlushed advanceHead
    dsimp only
    split
    · simp; rfl
    · split <;> simp <;> rfl
  | faults h f g c => exact carried_of_same ((State.custody_modSeq l _ _).trans (State.custody_modLane l _ _))
  | activates =>
    refine carried_of_same ?_
    unfold activationTaken
    split
    · rfl
    · split
      · rfl
      · unfold activate finish answer complete firstGap enterGap
        dsimp only
        split
        · split
          · simp
          · split <;> simp
        · simp
  | listed h hr pairs =>
    refine carried_of_same ?_
    unfold listArrives finish complete firstGap enterGap
    split <;> simp
  | unlisted h r c => exact carried_of_same (State.custody_modSeq l _ _)
  | asksEntry h hplace q => exact carried_of_same (askBus_custody _ _ _ l)
  | spaces => exact carried_spacingExpires l s
  | ends => exact carried_transmissionEnds l s
  | defers => exact carried_deferExpires l s
  | limits =>
    refine carried_of_same ?_
    unfold holdLimitExpires enterEnding endHold setEndCause finish complete
    dsimp only
    split
    · split <;> simp
    · rfl
  | replies =>
    refine carried_of_same ?_
    unfold replyExpires enterGap finish complete
    dsimp only
    split
    · split
      · split <;> simp
      · rfl
    · rfl
  | releases h => exact carried_of_same (releaseHold_custody h)
  | aborts flush =>
    unfold abortInHand
    dsimp only
    split
    · exact carried_refl l s
    · exact carried_abortActive l _ s
    · split
      · exact carried_of_same (State.custody_modSeq l _ s)
      · exact carried_refl l s
    · exact carried_refl l s
  | notesAbort work => exact carried_of_same (State.custody_modSeq l _ s)

/-! ## Effects on the part -/

theorem buffersAccounted_posts {s t : State} {address : Word} (h : BuffersAccounted s)
    (hpost : postBuffer address s = some t) : BuffersAccounted t := by
  unfold postBuffer Config.captureDepth at hpost
  rw [Option.ite_none_right_eq_some] at hpost
  obtain ⟨hroom, hpost⟩ := hpost
  obtain ⟨-, -, hsound⟩ := buffersAccounted_iff.mp h
  rw [← Option.some.inj hpost]
  refine h.of_lane (l := 0) (fun _ _ => rfl) (hsound 0) ?_ hroom
  have hlisted : (State.custody { s with captureList := s.captureList ++ [address], heldCount := s.heldCount + 1 } 0).total =
      (s.custody 0).total + 1 := by
    rw [custody_total, custody_total]
    show (s.captureList ++ [address]).length + (s.lane 0).buffersHeld = _
    rw [List.length_append, List.length_singleton]
    omega
  rw [hlisted]
  show s.heldCount + 1 + _ = _
  omega

/-- A reset of a lane returns every buffer of the lane to the list, but the one of an event kept for its write (R154,
R155). -/
theorem carried_resetLane (l : Lane) (s : State) : Carried l s (resetLane l s) := by
  rintro ⟨-, -⟩
  have hboxes : (captureBuffers (s.outboxAtReset l).1).length + (s.outboxAtReset l).2.toList.countP RxEvent.isCapture =
      (s.lane l).outbox.events.countP RxEvent.isCapture +
        (s.lane l).outbox.settling.toList.countP RxEvent.isCapture := by
    have hcount : ∀ events, (captureBuffers events).length = events.countP RxEvent.isCapture := by
      intro events
      induction events with
      | nil => rfl
      | cons ev rest ih =>
        unfold captureBuffers RxEvent.isCapture at ih ⊢
        cases hk : ev.kind <;> simp [hk, ih]
    unfold State.outboxAtReset
    rw [hcount]
    dsimp only
    split
    · rename_i ev hkept
      simp [hkept]
    · rename_i hkept
      split
      · rename_i ev rest _ hevents
        split
        · simp [hevents, hkept, List.countP_cons]
        · simp [hevents, hkept]
      · simp [hkept]
  have hreturned : ∀ n held boxed, (returnsInOrder n held boxed).length = held.length + boxed.length := by
    intro n held boxed
    unfold returnsInOrder
    cases held <;> cases boxed <;> simp
    split <;> simp <;> omega
  have hlist : (if (s.lane l).capture.isSome then discardCaptureWrite l s else s).captureList = s.captureList := by
    split
    · rcases discardCaptureWrite_cases l s with hd | ⟨x, hd⟩ <;> rw [hd]
      rfl
    · rfl
  unfold resetLane
  dsimp only
  rw [State.custody_setLane]
  refine ⟨⟨fun h => by simp [LaneState.afterReset, Decoder.buffer] at h, by simp [LaneState.afterReset]⟩, ?_⟩
  have hpassed : ((s.lane l).capture.map FinishedCapture.buffer).toList.length = (s.lane l).capture.toList.length := by
    cases (s.lane l).capture <;> rfl
  have hoff : Decoder.off.buffer = none := rfl
  simp only [Custody.total, State.custody, hlist, List.length_append, hreturned, LaneState.heldBuffers,
    LaneState.afterReset, hpassed, hoff, Outbox.captures, List.countP_nil, Option.toList_none, List.length_nil]
  omega

theorem resetLane_frame (l : Lane) (s : State) :
    (∀ l', l' ≠ l → (resetLane l s).lane l' = s.lane l') ∧ (resetLane l s).heldCount = s.heldCount := by
  have hdiscard : (if (s.lane l).capture.isSome then discardCaptureWrite l s else s).lanes = s.lanes ∧
      (if (s.lane l).capture.isSome then discardCaptureWrite l s else s).heldCount = s.heldCount := by
    split
    · rcases discardCaptureWrite_cases l s with hd | ⟨x, hd⟩ <;> rw [hd] <;> exact ⟨rfl, rfl⟩
    · exact ⟨rfl, rfl⟩
  obtain ⟨hlanes, hheld⟩ := hdiscard
  refine ⟨fun l' hl => ?_, hheld⟩
  unfold resetLane
  dsimp only
  rw [State.setLane_lane_ne _ _ hl]
  exact congrArg (fun v : Vector LaneState 4 => v[l'.val]) hlanes

/-- An event with a buffer leaves the outbox for the host's memory, and its buffer is the host's (R59, R64). -/
theorem buffersAccounted_released {s : State} {l : Lane} {ev : RxEvent} {o : Outbox} (h : BuffersAccounted s)
    (ho : (s.lane l).outbox.captures = o.captures + if ev.isCapture then 1 else 0) :
    BuffersAccounted (releaseHeld ev (s.modLane l fun x => { x with outbox := o })) := by
  have hothers : ∀ l', l' ≠ l → (s.modLane l fun x => { x with outbox := o }).lane l' = s.lane l' :=
    fun l' hl => State.modLane_lane_ne s _ hl
  obtain ⟨hposted, hmost, hsound⟩ := buffersAccounted_iff.mp h
  have hheld : (s.custody l).total ≤ s.heldCount := by
    have hone := posted_eq s
    have htotal := custody_total s l
    fin_cases l <;> simp only [Fin.zero_eta, Fin.mk_one, Fin.reduceFinMk] at htotal ⊢ <;> omega
  have htotal : (s.custody l).total =
      ((s.modLane l fun x => { x with outbox := o }).custody l).total + if ev.isCapture then 1 else 0 := by
    rw [State.custody_modLane]
    simp [Custody.total, State.custody, ho]
    omega
  have hthen : ((s.modLane l fun x => { x with outbox := o }).custody l).Sound := by
    rw [State.custody_modLane]
    exact hsound l
  unfold RxEvent.isCapture at htotal
  unfold releaseHeld
  cases hk : ev.kind <;> simp only [hk, Bool.false_eq_true, if_false, if_true, Nat.add_zero] at htotal ⊢
  case capture =>
    refine h.of_lane hothers hthen ?_ (Nat.le_trans (Nat.sub_le _ _) hmost)
    show s.heldCount - 1 + _ = s.heldCount + ((s.modLane l fun x => { x with outbox := o }).custody l).total
    omega
  all_goals exact h.of_lane hothers hthen (by rw [htotal]; rfl) hmost

theorem buffersAccounted_leaves {s : State} (h : BuffersAccounted s) (l : Lane) : BuffersAccounted (leaveOutbox l s) := by
  unfold leaveOutbox
  dsimp only
  split
  · rename_i ev hkept
    refine buffersAccounted_released h ?_
    simp [Outbox.captures, hkept, List.countP_cons]
  · rename_i hkept
    split
    · exact h
    · rename_i ev rest hevents
      refine buffersAccounted_released h ?_
      simp [Outbox.captures, hkept, hevents, List.countP_cons]

/-- A discarded event's buffer goes back to the list (R155). -/
theorem carried_drops (l : Lane) (s : State) : Carried l s (dropSettling l s) := by
  intro hsound
  unfold dropSettling
  dsimp only
  split
  · exact ⟨hsound, rfl⟩
  · rename_i ev hkept
    split <;> rename_i hk
    · rw [returnBuffer_eq, State.custody_captureList, State.custody_modLane]
      refine ⟨hsound, ?_⟩
      simp [Custody.total, State.custody, Outbox.captures, hkept, RxEvent.isCapture, hk]
      omega
    all_goals
      rw [State.custody_modLane]
      refine ⟨hsound, ?_⟩
      simp [Custody.total, State.custody, Outbox.captures, hkept, RxEvent.isCapture, hk]

theorem dropSettling_frame (l : Lane) (s : State) :
    (∀ l', l' ≠ l → (dropSettling l s).lane l' = s.lane l') ∧ (dropSettling l s).heldCount = s.heldCount := by
  have hset : ∀ l', l' ≠ l →
      (s.modLane l fun x => { x with outbox := { (s.lane l).outbox with settling := none } }).lane l' = s.lane l' :=
    fun l' hl => State.modLane_lane_ne s _ hl
  unfold dropSettling
  dsimp only
  split
  · exact ⟨fun _ _ => rfl, rfl⟩
  · split <;> exact ⟨hset, rfl⟩

/-- A lane at an engine stop holds no buffer (R169). -/
theorem stopped_empty (x : LaneState) : x.stopped.buffersHeld = 0 ∧ (x.stopped.blind = true ↔ x.stopped.decoder = .blind) :=
  ⟨rfl, by simp [LaneState.stopped, LaneState.reset]⟩

/-- Every effect keeps the account. -/
theorem buffersAccounted_effect {s t : State} (heffect : Effect s t) (h : BuffersAccounted s) : BuffersAccounted t := by
  cases heffect with
  | elsewhere he => exact h.of_same he.lanes he.captureList he.heldCount
  | lane hlane => exact h.of_carried hlane.onlyLane.lanes hlane.onlyLane.heldCount (carried_of_laneEffect hlane)
  | chooses => exact h.of_same (by simp) (by simp) (by simp)
  | frees c => exact h.of_same rfl rfl rfl
  | grants =>
    rcases startTransaction_cases s with ⟨i, t, -, -, hstart⟩ | hstart <;> rw [hstart]
    · exact h.of_same rfl rfl rfl
    · exact h
  | reachesOff => exact h.of_same rfl rfl rfl
  | stops =>
    refine buffersAccounted_of_empty rfl rfl fun l => ?_
    have hlane : (stopBlocks s).lane l = (s.lane l).stopped := by simp [stopBlocks]
    simp only [Custody.Sound, State.custody, hlane]
    exact ⟨rfl, nofun, (stopped_empty _).2⟩
  | resets =>
    refine buffersAccounted_of_empty rfl rfl fun l => ?_
    have hlane : (resetBlocks s).lane l = (s.lane l).engineReset := by simp [resetBlocks]
    simp only [Custody.Sound, State.custody, hlane]
    exact ⟨rfl, nofun, by simp [LaneState.engineReset, LaneState.reset]⟩
  | powersOn =>
    refine buffersAccounted_of_empty rfl rfl fun l => ?_
    have hlane : (powerOn s).lane l = (s.lane l).engineReset := by simp [powerOn]
    simp only [Custody.Sound, State.custody, hlane]
    exact ⟨rfl, nofun, by simp [LaneState.engineReset, LaneState.reset]⟩
  | runs =>
    refine buffersAccounted_of_empty rfl rfl fun l => ?_
    have hlane : (enterRunning s).lane l = (s.lane l).started := by simp [enterRunning]
    simp only [Custody.Sound, State.custody, hlane]
    unfold LaneState.started
    dsimp only
    split
    · exact ⟨rfl, nofun, by simp [LaneState.stopped, LaneState.reset]⟩
    · exact ⟨rfl, nofun, (stopped_empty _).2⟩
  | posts hpost => exact buffersAccounted_posts h hpost
  | resetsLane l => exact h.of_carried (resetLane_frame l s).1 (resetLane_frame l s).2 (carried_resetLane l s)
  | writesOver w => exact h.of_same rfl rfl rfl
  | @completes _ l _ hflight =>
    exact h.of_carried (l := l) (fun l' hl => State.modSeq_lane_ne _ _ hl) rfl
      (carried_of_same ((State.custody_modSeq l _ _).trans rfl))
  | leaves l => exact buffersAccounted_leaves h l
  | drops l => exact h.of_carried (dropSettling_frame l s).1 (dropSettling_frame l s).2 (carried_drops l s)

/-- Settles O57: every effect of a step keeps the account (`buffersAccounted_effect`). -/
theorem buffersKeptByEveryStep : Obligations.BuffersKeptByEveryStep :=
  fun _ _ => step_keeps fun _ _ => buffersAccounted_effect

end Sys2Proof.Machine
end

section
/-! What the receive side makes of its lane's sender: it starts the transmission that waits in DEFER (R34, R96), it
completes the exchange that waits in LISTEN (R114), and otherwise the sender stays as it is. -/

namespace Sys2Proof.Machine

open Sys2Proof.Claims

/-! ## The sender after an update -/

/-- The sender with the transmission of a request started now (R91). -/
def Sender.started (x : Sender) (r : ActiveRequest) (now : Moment) : Sender :=
  { x with
    seq :=
      { x.seq with state := .sending, active := some (r.begun now), spacingDue := none, deferDue := none,
                   limitDue := r.limitFrom now x.seq.limitDue },
    onLine := true }

/-- The sender with a completion to come (R99). -/
def Sender.completed (x : Sender) (c : Completion) : Sender := { x with seq := posting x.seq c }

/-- A place at the bus port when its client asks: a free place takes the transaction (R173). -/
def BusSlot.asking (t : Transaction) : BusSlot → BusSlot
  | .idle => .pending t
  | .pending u => .pending u
  | .outstanding u => .outstanding u

theorem State.sender_modLane (l : Lane) (f : LaneState → LaneState) (s : State) :
    (s.modLane l f).sender l =
      { seq := (f (s.lane l)).seq, onLine := (f (s.lane l)).tx.isSome, place := s.busSlot (.sequencer l) } := by
  simp [State.sender]

@[simp] theorem State.sender_modSeq (l : Lane) (f : Sequencer → Sequencer) (s : State) :
    (s.modSeq l f).sender l = { s.sender l with seq := f (s.sender l).seq } := by
  simp [State.sender]

@[simp] theorem State.sender_setBus (l : Lane) (x : BusSlot) (s : State) :
    (s.setBus (.sequencer l) x).sender l = { s.sender l with place := x } := by
  simp [State.sender]

@[simp] theorem askBus_sender (l : Lane) (t : Transaction) (s : State) :
    (askBus (.sequencer l) t s).sender l = { s.sender l with place := (s.sender l).place.asking t } := by
  rcases askBus_cases (.sequencer l) t s with ⟨hplace, h⟩ | ⟨hplace, h⟩ <;> rw [h]
  · simp [State.sender, hplace, BusSlot.asking]
  · cases hp : s.busSlot (.sequencer l) <;> simp [State.sender, hp, BusSlot.asking] at hplace ⊢

@[simp] theorem askCapture_sender (l : Lane) (t : Transaction) (s : State) :
    (askBus (.captureWriter l) t s).sender l = s.sender l := by
  rcases askBus_cases (.captureWriter l) t s with ⟨-, h⟩ | ⟨-, h⟩ <;> rw [h]
  simp [State.sender]

@[simp] theorem complete_sender (l : Lane) (c : Completion) (s : State) :
    (complete l c s).sender l = (s.sender l).completed c := State.sender_modSeq l _ s

@[simp] theorem bump_sender (l : Lane) (c : LaneCounter) (s : State) : (bump l c s).sender l = s.sender l :=
  sender_of_holdings (bump_holdings l c s)

@[simp] theorem setDecoder_sender (l : Lane) (d : Decoder) (s : State) : (setDecoder l d s).sender l = s.sender l :=
  State.sender_modLane l _ s

@[simp] theorem abandonWork_sender (l : Lane) (s : State) : (abandonWork l s).sender l = s.sender l := by
  unfold abandonWork
  split <;> rfl

@[simp] theorem finishCapture_sender (l : Lane) (b : Word) (start : Moment) (c : Code) (pairs : List CapturePair)
    (s : State) : (finishCapture l b start c pairs s).sender l = s.sender l := by
  unfold finishCapture
  rw [askCapture_sender]
  exact State.sender_modLane l _ s

@[simp] theorem markOverrun_sender (l : Lane) (s : State) : (markOverrun l s).sender l = s.sender l := by
  unfold markOverrun
  rw [bump_sender]
  simp [State.sender]

@[simp] theorem blindMark_sender (l : Lane) (edge : Moment) (s : State) : (blindMark l edge s).sender l = s.sender l := by
  rcases blindMark_cases l edge s with ⟨t, since, -, -, -, -, -, h⟩ | h <;> simp [h]

@[simp] theorem raiseBlind_sender (l : Lane) (count : Bool) (s : State) : (raiseBlind l count s).sender l = s.sender l := by
  unfold raiseBlind
  dsimp only
  split
  · exact State.sender_modLane l _ s
  · refine (State.sender_modLane l _ _).trans ((abandonWork_sender l _).trans ?_)
    split <;> simp

/-- The start of a transmission, at the sender (R91). -/
theorem startTransmission_sender {l : Lane} {s : State} {r : ActiveRequest} (hr : (s.lane l).seq.active = some r)
    (forced : Bool) : (startTransmission l forced s).sender l = (s.sender l).started r s.clock := by
  unfold startTransmission
  simp only [hr]
  have hcounted : (if forced then bump l .collisions s else s).sender l = s.sender l := by
    split <;> simp
  have hclock : (if forced then bump l .collisions s else s).clock = s.clock := by
    split <;> rfl
  generalize (if forced then bump l .collisions s else s) = u at hcounted hclock ⊢
  have hraised : (if (u.lane l).settings.mode = .shared then raiseBlind l (!forced) u else u).sender l = s.sender l := by
    split <;> simp [hcounted]
  have hthen : (if (u.lane l).settings.mode = .shared then raiseBlind l (!forced) u else u).clock = s.clock := by
    split <;> simp [hclock, (onlyLane_raiseBlind l _ u).clock]
  generalize (if (u.lane l).settings.mode = .shared then raiseBlind l (!forced) u else u) = v at hraised hthen ⊢
  have hseq : (v.lane l).seq = (s.lane l).seq := congrArg Sender.seq hraised
  have hplace : v.busSlot (.sequencer l) = s.busSlot (.sequencer l) := congrArg Sender.place hraised
  simp [State.sender, Sender.started, hseq, hplace, hthen]

/-! ## Hearing -/

/-- What the receive side can make of a sender. -/
inductive Sender.Hears (x : Sender) : Sender → Prop
  | nothing : x.Hears x
  | starts (h : x.seq.state = .defer) {r : ActiveRequest} (hr : x.seq.active = some r) (now : Moment) :
      x.Hears (x.started r now)
  | replied (h : x.seq.state = .listen) (c : Completion) : x.Hears (x.completed c)

theorem Sender.Hears.trans {x y z : Sender} (h : x.Hears y) (k : y.Hears z) : x.Hears z := by
  cases h with
  | nothing => exact k
  | starts h hr now =>
    cases k with
    | nothing => exact .starts h hr now
    | starts h' _ _ => cases h'
    | replied h' _ => cases h'
  | replied h c =>
    cases k with
    | nothing => exact .replied h c
    | starts h' _ _ => cases h'
    | replied h' _ => cases h'

/-- A sender that waits neither in DEFER nor in LISTEN hears nothing. -/
theorem Sender.Hears.eq_of_busy {x y : Sender} (h : x.Hears y) (hdefer : x.seq.state ≠ .defer)
    (hlisten : x.seq.state ≠ .listen) : y = x := by
  cases h with
  | nothing => rfl
  | starts h _ _ => exact absurd h hdefer
  | replied h _ => exact absurd h hlisten

/-- From `s` to `t` the receive side of lane `l` was at work, as far as its sender is concerned. -/
def Heard (l : Lane) (s t : State) : Prop := (s.sender l).Hears (t.sender l)

theorem Heard.trans {l : Lane} {s t u : State} (h : Heard l s t) (k : Heard l t u) : Heard l s u :=
  Sender.Hears.trans h k

theorem heard_of_same {l : Lane} {s t : State} (h : t.sender l = s.sender l) : Heard l s t := by
  unfold Heard
  rw [h]
  exact .nothing

theorem heard_refl (l : Lane) (s : State) : Heard l s s := .nothing

theorem heard_of_holdings {l : Lane} {s t : State} (h : t.holdings l = s.holdings l) : Heard l s t :=
  heard_of_same (sender_of_holdings h)

/-! ## The decoder -/

theorem heard_huntEntered (l : Lane) (s : State) : Heard l s (huntEntered l s) := by
  unfold huntEntered
  split
  case h_1 hdefer =>
    cases hr : (s.lane l).seq.active with
    | none =>
      unfold startTransmission
      rw [hr]
      exact heard_refl l s
    | some r =>
      unfold Heard
      rw [startTransmission_sender hr]
      exact .starts hdefer hr s.clock
  all_goals exact heard_refl l s

theorem heard_enterHunt (l : Lane) (s : State) : Heard l s (enterHunt l s) :=
  (heard_of_same (State.sender_modLane l _ s)).trans (heard_huntEntered l _)

theorem heard_takeGoodFrame (l : Lane) (f : GoodFrame) (s : State) : Heard l s (takeGoodFrame l f s) := by
  have hframe := heard_of_holdings (takeFrame_holdings l f s)
  unfold takeGoodFrame
  dsimp only
  split
  · rename_i hlisten _
    split
    · unfold Heard
      rw [complete_sender]
      exact .replied hlisten _
    · exact hframe
  · exact hframe

theorem heard_claimCapture (l : Lane) (s : State) : Heard l s (claimCapture l s).2 := by
  rcases claimCapture_cases l s with ⟨b, rest, -, -, hclaim⟩ | ⟨c, hclaim⟩ <;> rw [hclaim]
  · exact heard_refl l s
  · exact heard_of_same (bump_sender l c s)

theorem heard_setDecoder (l : Lane) (d : Decoder) (s : State) : Heard l s (setDecoder l d s) :=
  heard_of_same (setDecoder_sender l d s)

theorem heard_firstMarkEnds (l : Lane) (start : Moment) (m : Nat) (s : State) : Heard l s (firstMarkEnds l start m s) := by
  unfold firstMarkEnds
  split
  · exact heard_setDecoder l _ s
  · have hclaim := heard_claimCapture l s
    split <;> rename_i heq <;> rw [heq] at hclaim <;> exact hclaim.trans (heard_setDecoder l _ _)

theorem heard_frameError (l : Lane) (c : Code) (i : SlotId) (start : Moment) (part : PartialFrame) (s : State) :
    Heard l s (frameError l c i start part s) := heard_of_holdings (frameError_holdings l c i start part s)

theorem heard_brokenInside (l : Lane) (c : Code) (i : SlotId) (k : Nat) (start : Moment) (part : PartialFrame)
    (s : State) : Heard l s (brokenInside l c i k start part s) :=
  (heard_frameError l c i start part s).trans (heard_setDecoder l _ _)

theorem heard_brokenAtEnd (l : Lane) (c : Code) (i : SlotId) (start : Moment) (part : PartialFrame) (s : State) :
    Heard l s (brokenAtEnd l c i start part s) :=
  (heard_frameError l c i start part s).trans (heard_enterHunt l _)

theorem heard_frameEnds (l : Lane) (i : SlotId) (start : Moment) (part : PartialFrame) (s : State) :
    Heard l s (frameEnds l i start part s) := by
  unfold frameEnds
  split
  · exact heard_brokenAtEnd l _ _ _ _ s
  · exact ((heard_of_same (bump_sender l _ s)).trans (heard_takeGoodFrame l _ _)).trans (heard_enterHunt l _)

theorem heard_orphan (l : Lane) (i : SlotId) (k : Nat) (s : State) : Heard l s (orphan l i k s) :=
  (heard_of_same (bump_sender l _ s)).trans (heard_setDecoder l _ _)

theorem heard_newMark (l : Lane) (mark : Option Moment) (s : State) :
    Heard l s (match mark, (s.lane l).decoder with
      | some edge, .hunt _ => setDecoder l (.leader edge) s
      | some _, .blind => markOverrun l s
      | _, _ => s) := by
  split
  · exact heard_setDecoder l _ s
  · exact heard_of_same (markOverrun_sender l s)
  · exact heard_refl l s

theorem heard_unclassifiedSpace (l : Lane) (start : Moment) (m d : Nat) (mark : Option Moment) (s : State) :
    Heard l s (unclassifiedSpace l start m d mark s) := by
  unfold unclassifiedSpace
  rcases claimCapture_cases l s with ⟨b, rest, -, -, hclaim⟩ | ⟨c, hclaim⟩ <;> simp only [hclaim]
  · have hclaimed : Heard l s { s with captureList := rest } := heard_refl l s
    split
    · exact hclaimed.trans (heard_setDecoder l _ _)
    · exact ((hclaimed.trans (heard_of_same (finishCapture_sender l _ _ _ _ _))).trans (heard_enterHunt l _)).trans
        (heard_newMark l mark _)
  · have hcounted := heard_of_same (bump_sender l c s)
    split
    · exact hcounted.trans (heard_setDecoder l _ _)
    · exact (hcounted.trans (heard_enterHunt l _)).trans (heard_newMark l mark _)

theorem heard_firstSpaceEnds (l : Lane) (start : Moment) (m : Nat) (cands : List Candidate) (d : Nat) (edge : Moment)
    (s : State) : Heard l s (firstSpaceEnds l start m cands d edge s) := by
  unfold firstSpaceEnds
  split
  · exact heard_setDecoder l _ s
  · exact heard_setDecoder l _ s
  · exact heard_orphan l _ _ s
  · exact heard_unclassifiedSpace l _ _ _ _ s

theorem heard_symbolTaken (l : Lane) (start : Moment) (i : SlotId) (k d : Nat) (level : Bool) (part : PartialFrame)
    (s : State) : Heard l s (symbolTaken l start i k d level part s) := by
  unfold symbolTaken
  split
  · exact heard_setDecoder l _ s
  · exact heard_brokenInside l _ _ _ _ _ s
  · exact heard_brokenInside l _ _ _ _ _ s

theorem heard_captureSpace (l : Lane) (w : CaptureWork) (d : Nat) (s : State) : Heard l s (captureSpace l w d s) := by
  unfold captureSpace
  split
  · exact heard_refl l s
  · dsimp only
    split
    · exact heard_setDecoder l _ s
    · exact (heard_setDecoder l _ s).trans (heard_of_same (finishCapture_sender l _ _ _ _ _))

theorem heard_takeTransition (l : Lane) (mark : Bool) (edge : Moment) (ended : Option Nat) (s : State) :
    Heard l s (takeTransition l mark edge ended s) := by
  unfold takeTransition
  split
  case h_1 | h_9 | h_10 => exact heard_refl l s
  case h_2 =>
    split
    · exact heard_of_same (blindMark_sender l edge s)
    · exact heard_refl l s
  case h_3 =>
    split
    · exact heard_setDecoder l _ s
    · exact heard_refl l s
  case h_4 =>
    split
    · exact heard_firstMarkEnds l _ _ s
    · exact heard_refl l s
  case h_5 =>
    split
    · exact heard_firstSpaceEnds l _ _ _ _ _ s
    · exact heard_refl l s
  case h_6 =>
    split
    · exact heard_symbolTaken l _ _ _ _ _ _ s
    · exact heard_refl l s
  case h_7 =>
    split
    · unfold closingMarkEnds
      dsimp only
      split
      · exact heard_refl l s
      · exact heard_orphan l _ _ s
    · exact heard_orphan l _ _ s
    · exact heard_refl l s
  case h_8 =>
    split
    · exact heard_refl l s
    · exact heard_enterHunt l s
  case h_11 =>
    split
    · exact heard_setDecoder l _ s
    · exact heard_captureSpace l _ _ s
    · exact heard_refl l s

/-! ## Crossings -/

theorem heard_lineStuck (l : Lane) (edge : Moment) (s : State) : Heard l s (lineStuck l edge s) := by
  refine heard_of_same ?_
  unfold lineStuck
  dsimp only
  rw [setDecoder_sender, sender_of_holdings (enterOutbox_holdings (by simp) l _)]
  exact (State.sender_modLane l _ _).trans (abandonWork_sender l s)

theorem heard_spaceCrossing (l : Lane) (threshold : Nat) (s : State) : Heard l s (spaceCrossing l threshold s) := by
  unfold spaceCrossing
  split
  case h_1 => exact heard_unclassifiedSpace l _ _ _ _ s
  case h_2 =>
    split
    · exact heard_frameEnds l _ _ _ s
    · exact heard_brokenAtEnd l _ _ _ _ s
    · exact heard_brokenAtEnd l _ _ _ _ s
  case h_3 => exact (heard_enterHunt l s).trans (heard_of_holdings (takeRepeatCode_holdings l _ _ _))
  case h_4 => exact heard_enterHunt l s
  case h_5 =>
    split
    · exact heard_refl l s
    · exact ((heard_setDecoder l _ s).trans (heard_of_same (finishCapture_sender l _ _ _ _ _))).trans
        (heard_enterHunt l _)
  all_goals exact heard_refl l s

theorem heard_reportCrossings (l : Lane) (cutoff : Moment) (n : Nat) (s : State) :
    Heard l s (reportCrossings l cutoff n s) := by
  induction n generalizing s with
  | zero => exact heard_refl l s
  | succ n ih =>
    unfold reportCrossings
    split
    · exact heard_refl l s
    · refine Heard.trans ?_ (ih _)
      unfold takeCrossing
      split
      · exact heard_lineStuck l _ s
      · exact heard_spaceCrossing l _ s

theorem heard_crossingsNow (l : Lane) (s : State) : Heard l s (crossingsNow l s) := by
  unfold crossingsNow
  split
  · exact heard_refl l s
  · split
    · exact heard_reportCrossings l _ _ s
    · exact heard_refl l s

/-! ## Conditioner and settings -/

theorem heard_restartInput (l : Lane) (s : State) : Heard l s (restartInput l s) := by
  unfold restartInput
  split
  · exact (heard_of_same (State.sender_modLane l _ s)).trans (heard_enterHunt l _)
  · exact heard_of_same (State.sender_modLane l _ s)

theorem heard_withdrawBlind (l : Lane) (s : State) : Heard l s (withdrawBlind l s) := by
  unfold withdrawBlind
  split
  · have hcrossed : ∀ u : State, Heard l u (crossingsAtOnce l u) := by
      intro u
      unfold crossingsAtOnce
      split
      · exact heard_refl l u
      · exact heard_reportCrossings l _ _ u
    exact ((heard_of_same (State.sender_modLane l _ s)).trans (heard_enterHunt l _)).trans (hcrossed _)
  · exact heard_of_same (State.sender_modLane l _ s)

theorem heard_takeConfirmed (l : Lane) (edge : Moment) (s : State) : Heard l s (takeConfirmed l edge s) := by
  unfold takeConfirmed
  dsimp only
  split
  · exact heard_refl l s
  · exact ((heard_of_same (State.sender_modLane l _ s)).trans
      (heard_takeTransition l _ _ _ _)).trans (heard_crossingsNow l _)

theorem heard_confirmHeld (l : Lane) (s : State) : Heard l s (confirmHeld l s) := by
  unfold confirmHeld
  split
  · exact heard_refl l s
  · exact (heard_reportCrossings l _ _ s).trans (heard_takeConfirmed l _ _)

theorem heard_takePinEdge (l : Lane) (high : Bool) (s : State) : Heard l s (takePinEdge l high s) := by
  have hnoted : ∀ (e : Option Moment) (u : State), Heard l u (setExcursion l e u) := fun e u =>
    heard_of_same (State.sender_modLane l _ u)
  unfold takePinEdge
  split
  · exact heard_refl l s
  · dsimp only
    have hpin : Heard l s (confirmHeld l (s.modLane l fun x => { x with pinHigh := high })) :=
      (heard_of_same (State.sender_modLane l _ s)).trans (heard_confirmHeld l _)
    split
    · exact (hpin.trans (hnoted _ _)).trans (heard_crossingsNow l _)
    · exact (hpin.trans (hnoted _ _)).trans (heard_confirmHeld l _)

theorem heard_settlePressAndGate (l : Lane) (new : LaneSettings) (command : GateCommand) (s : State) :
    Heard l s (settlePressAndGate l new command s) := by
  unfold settlePressAndGate
  dsimp only
  refine Heard.trans ?_ (heard_of_same (State.sender_modLane l _ _))
  split
  · exact heard_of_holdings (closePress_holdings l s)
  · exact heard_refl l s

theorem heard_quietDecoder (l : Lane) (s : State) : Heard l s (quietDecoder l s) :=
  heard_of_same ((State.sender_modLane l _ _).trans (abandonWork_sender l s))

/-! ## Leaving the line -/

/-- The sender whose transmission has left the line (R93). -/
def Sender.offLine (x : Sender) (free : Moment) : Sender :=
  { x with seq := { x.seq with lineFree := some free }, onLine := false }

/-- The line is left, the echo guard is counted, and the receive side may come back (R29, R32). -/
theorem leaveLine_hears (l : Lane) (r : ActiveRequest) (s : State) :
    ((s.sender l).offLine (s.clock + s.gapAfter r)).Hears ((leaveLine l r s).sender l) := by
  have hoff : (s.modLane l fun x =>
      { x with tx := none, seq := { x.seq with lineFree := some (s.clock + s.gapAfter r) } }).sender l =
        (s.sender l).offLine (s.clock + s.gapAfter r) := by
    simp [State.sender, Sender.offLine]
  rw [← hoff]
  unfold leaveLine startEchoGuard
  dsimp only
  split
  · split
    · exact heard_withdrawBlind l _
    · exact heard_of_same (State.sender_modLane l _ _)
  · exact .nothing

/-- A transmission that leaves the line leaves its sequencer as it is, but for the line-free time. -/
theorem leaveLine_sender {l : Lane} {s : State} (r : ActiveRequest) (hdefer : (s.lane l).seq.state ≠ .defer)
    (hlisten : (s.lane l).seq.state ≠ .listen) :
    (leaveLine l r s).sender l = (s.sender l).offLine (s.clock + s.gapAfter r) :=
  (leaveLine_hears l r s).eq_of_busy hdefer hlisten

end Sys2Proof.Machine
end

section
/-! Every step keeps each lane working on one request at a time (R84, R85, R99, R103). -/

namespace Sys2Proof.Machine

open Sys2Proof.Claims

/-! ## The invariant, lane by lane -/

/-- A sender works on one request at a time, while the engine is RUNNING or not and the event writer serves its sequencer
or not. -/
structure Sender.Works (x : Sender) (running served : Prop) : Prop where
  completion : x.seq.completion.isSome ↔ x.seq.state = .posting
  line : x.onLine = true ↔ x.seq.state.onLine = true
  taken : x.seq.taken.isSome → x.seq.state = .fetch
  active : x.seq.state.runs = true → x.seq.active.isSome
  resting : x.seq.state = .idle ∨ x.seq.state = .fetch → x.seq.active = none
  raw : x.seq.state = .listFetch → ∀ r, x.seq.active = some r → r.kind = .raw
  cause : x.seq.state = .ending → ∀ r, x.seq.active = some r → r.endCause.isSome
  free : x.seq.taken.isSome → x.place = .idle
  entryRead : running → x.place.purpose = some .requestEntry → x.seq.state = .fetch ∧ x.seq.taken = none
  listRead : running → x.place.purpose = some (.pairList false) → x.seq.state = .listFetch
  serves : served → x.seq.state = .posting

/-- The sequencer of lane `l` has an event write in flight. -/
def State.serves (s : State) (l : Lane) : Prop := ∃ q, s.writer.inFlight = some (.sequencer l, q)

/-- Lane `l` works on one request at a time. -/
def LaneWorks (s : State) (l : Lane) : Prop := (s.sender l).Works (s.engine = .running) (s.serves l)

theorem oneRequestEach_iff {s : State} : OneRequestEach s ↔ ∀ l, LaneWorks s l := by
  constructor
  · rintro ⟨hone, hbus, hserves⟩ l
    obtain ⟨⟨hcompletion, hline, htaken, hactive, hresting, hraw, hcause⟩, hfree⟩ := hone l
    exact ⟨hcompletion, hline, htaken, hactive, hresting, hraw, hcause, hfree, fun hrun => (hbus hrun l).1,
      fun hrun => (hbus hrun l).2, fun ⟨q, h⟩ => hserves l q h⟩
  · intro h
    exact ⟨fun l =>
      ⟨⟨(h l).completion, (h l).line, (h l).taken, (h l).active, (h l).resting, (h l).raw, (h l).cause⟩, (h l).free⟩,
      fun hrun l => ⟨(h l).entryRead hrun, (h l).listRead hrun⟩, fun l q hq => (h l).serves ⟨q, hq⟩⟩

section
variable {x y : Sender} {running served : Prop} {r : ActiveRequest}

/-! ## What holds of a sender by its state -/

/-- A sender in a state that runs a request: the request is active, and no entry, completion or entry read is there. -/
theorem Sender.Works.of_runs (h : x.Works running served) (hruns : x.seq.state.runs = true) :
    (∃ r, x.seq.active = some r) ∧ x.seq.taken = none ∧ x.seq.completion = none ∧ ¬ served ∧
      (running → x.place.purpose ≠ some .requestEntry) := by
  have hfetch : x.seq.state ≠ .fetch := fun he => by simp [he, SeqState.runs] at hruns
  have hposting : x.seq.state ≠ .posting := fun he => by simp [he, SeqState.runs] at hruns
  refine ⟨Option.isSome_iff_exists.mp (h.active hruns), ?_, ?_, fun hs => hposting (h.serves hs), fun hrun hp => ?_⟩
  · exact Option.not_isSome_iff_eq_none.mp fun ht => hfetch (h.taken ht)
  · exact Option.not_isSome_iff_eq_none.mp fun hc => hposting (h.completion.mp hc)
  · exact hfetch (h.entryRead hrun hp).1

/-- No entry is read for a sender that runs a request. -/
theorem Sender.Works.no_entry (h : x.Works running served) (hruns : x.seq.state.runs = true) (hrun : running) :
    x.place.purpose ≠ some .requestEntry := by
  obtain ⟨-, -, -, -, hentry⟩ := h.of_runs hruns
  exact hentry hrun

/-- A list read that is wanted is one of LIST_FETCH. -/
theorem Sender.Works.no_list (h : x.Works running served) (hstate : x.seq.state ≠ .listFetch) (hrun : running) :
    x.place.purpose ≠ some (.pairList false) := fun hp => hstate (h.listRead hrun hp)

/-- An active request and no completion: the sender is in a state that runs it. -/
theorem Sender.Works.runs (h : x.Works running served) (hr : x.seq.active = some r) (hstate : x.seq.state ≠ .posting) :
    x.seq.state.runs = true := by
  have hrest : ¬ (x.seq.state = .idle ∨ x.seq.state = .fetch) := fun he => by simp [h.resting he] at hr
  cases hs : x.seq.state <;> simp [hs] at hstate hrest <;> rfl

/-- A sender that runs a request with nothing on the line, or with a transmission. -/
theorem works_of_running (hruns : y.seq.state.runs = true) (hr : y.seq.active = some r)
    (htaken : y.seq.taken = none) (hdone : y.seq.completion = none) (hserved : ¬ served)
    (hline : y.onLine = y.seq.state.onLine) (hraw : y.seq.state = .listFetch → r.kind = .raw)
    (hcause : y.seq.state = .ending → r.endCause.isSome) (hentry : running → y.place.purpose ≠ some .requestEntry)
    (hlist : running → y.place.purpose = some (.pairList false) → y.seq.state = .listFetch) : y.Works running served where
  completion := by
    rw [hdone]
    exact ⟨nofun, fun h => by simp [h, SeqState.runs] at hruns⟩
  line := by rw [hline]
  taken h := by simp [htaken] at h
  active _ := by simp [hr]
  resting h := by rcases h with h | h <;> simp [h, SeqState.runs] at hruns
  raw h r' h' := Option.some.inj (hr.symm.trans h') ▸ hraw h
  cause h r' h' := Option.some.inj (hr.symm.trans h') ▸ hcause h
  free h := by simp [htaken] at h
  entryRead hrun hp := absurd hp (hentry hrun)
  listRead := hlist
  serves h := absurd h hserved

/-- A sender in POSTING. -/
theorem works_of_posting (hstate : y.seq.state = .posting) (hdone : y.seq.completion.isSome) (htaken : y.seq.taken = none)
    (hline : y.onLine = false)
    (hplace : running → y.place.purpose ≠ some .requestEntry ∧ y.place.purpose ≠ some (.pairList false)) :
    y.Works running served where
  completion := ⟨fun _ => hstate, fun _ => hdone⟩
  line := by simp [hline, hstate, SeqState.onLine]
  taken h := by simp [htaken] at h
  active h := by simp [hstate, SeqState.runs] at h
  resting h := by simp [hstate] at h
  raw h := by simp [hstate] at h
  cause h := by simp [hstate] at h
  free h := by simp [htaken] at h
  entryRead hrun hp := absurd hp (hplace hrun).1
  listRead hrun hp := absurd hp (hplace hrun).2
  serves _ := hstate

/-- A sender in IDLE or FETCH without an entry taken. -/
theorem works_of_resting (hstate : y.seq.state = .idle ∨ y.seq.state = .fetch) (hdone : y.seq.completion = none)
    (htaken : y.seq.taken = none) (hactive : y.seq.active = none) (hserved : ¬ served) (hline : y.onLine = false)
    (hentry : running → y.place.purpose = some .requestEntry → y.seq.state = .fetch)
    (hlist : running → y.place.purpose ≠ some (.pairList false)) : y.Works running served where
  completion := by rcases hstate with h | h <;> simp [hdone, h]
  line := by rcases hstate with h | h <;> simp [hline, h, SeqState.onLine]
  taken h := by simp [htaken] at h
  active h := by rcases hstate with h' | h' <;> simp [h', SeqState.runs] at h
  resting _ := hactive
  raw h := by rcases hstate with h' | h' <;> simp [h'] at h
  cause h := by rcases hstate with h' | h' <;> simp [h'] at h
  free h := by simp [htaken] at h
  entryRead hrun hp := ⟨hentry hrun hp, htaken⟩
  listRead hrun hp := absurd hp (hlist hrun)
  serves h := absurd h hserved

/-- Nothing on the line and nothing read: the request in hand may complete (R99). -/
theorem Sender.Works.completed {c : Completion} (hline : x.onLine = false)
    (hplace : running → x.place.purpose ≠ some .requestEntry ∧ x.place.purpose ≠ some (.pairList false)) :
    (x.completed c).Works running served :=
  works_of_posting rfl rfl rfl hline hplace

/-- The line is free in a state that has nothing on it. -/
theorem Sender.Works.offLine (h : x.Works running served) (hstate : x.seq.state.onLine = false) : x.onLine = false :=
  Bool.eq_false_iff.mpr fun hx => by simp [h.line.mp hx] at hstate

/-- A request that runs with nothing on the line and reads no list may complete. -/
theorem Sender.Works.complete_running {c : Completion} (h : x.Works running served)
    (hruns : x.seq.state.runs = true) (hline : x.seq.state.onLine = false) (hlist : x.seq.state ≠ .listFetch) :
    (x.completed c).Works running served :=
  .completed (h.offLine hline) (fun hrun => ⟨h.no_entry hruns hrun, h.no_list hlist hrun⟩)

/-- What the receive side does. -/
theorem Sender.Works.hears (h : x.Works running served) (hy : x.Hears y) : y.Works running served := by
  cases hy with
  | nothing => exact h
  | starts hdefer hr now =>
    have hruns : x.seq.state.runs = true := by rw [hdefer]; rfl
    obtain ⟨-, htaken, hdone, hserved, hentry⟩ := h.of_runs hruns
    exact works_of_running rfl rfl htaken hdone hserved rfl nofun nofun hentry
      fun hrun hp => absurd hp (h.no_list (by simp [hdefer]) hrun)
  | replied hlisten c =>
    exact h.complete_running (by rw [hlisten]; rfl) (by rw [hlisten]; rfl) (by simp [hlisten])

/-- The next transmission starts (R91). -/
theorem Sender.Works.started (h : x.Works running served) (hruns : x.seq.state.runs = true)
    (hlist : x.seq.state ≠ .listFetch) (r : ActiveRequest) (now : Moment) : (x.started r now).Works running served := by
  obtain ⟨-, htaken, hdone, hserved, hentry⟩ := h.of_runs hruns
  exact works_of_running rfl rfl htaken hdone hserved rfl nofun nofun hentry
    fun hrun hp => absurd hp (h.no_list hlist hrun)

end

end Sys2Proof.Machine
end

section
/-! What a lane's happenings make of its sender (05, 06), each of which keeps it at one request at a time. -/

namespace Sys2Proof.Machine

open Sys2Proof.Claims

/-! ## The place at the bus port -/

/-- A client that asks has its transaction at the port, or what its place held before (R173). -/
theorem BusSlot.asking_purpose (t : Transaction) (p : BusSlot) :
    (p.asking t).purpose = some t.purpose ∨ (p.asking t).purpose = p.purpose := by
  cases p
  · exact .inl rfl
  · exact .inr rfl
  · exact .inr rfl

/-- No wanted list read is left after a discard, and an entry read is one that was there before (R100). -/
theorem listUnwanted_purpose (p : BusSlot) :
    (listUnwanted p).purpose ≠ some (.pairList false) ∧
      ((listUnwanted p).purpose = some .requestEntry → p.purpose = some .requestEntry) := by
  cases p with
  | idle => exact ⟨nofun, nofun⟩
  | pending t | outstanding t =>
    by_cases ht : t.purpose = .pairList false <;> simp [listUnwanted, BusSlot.purpose, ht]

/-- The discard marks what the sequencer's place holds (R94, R100). -/
theorem discardListRead_eq_setBus (l : Lane) (s : State) :
    discardListRead l s = s.setBus (.sequencer l) (listUnwanted (s.busSlot (.sequencer l))) := by
  unfold discardListRead
  cases h : s.busSlot (.sequencer l) with
  | idle => exact (h ▸ State.setBus_busSlot_same (.sequencer l) s).symm
  | pending t => rfl
  | outstanding t => rfl

@[simp] theorem discardListRead_sender (l : Lane) (s : State) :
    (discardListRead l s).sender l = { s.sender l with place := listUnwanted (s.sender l).place } := by
  rw [discardListRead_eq_setBus, State.sender_setBus]
  rfl

/-! ## Operations of the sequencer -/

@[simp] theorem enterGap_sender (l : Lane) (due : Moment) (s : State) :
    (enterGap l due s).sender l =
      { s.sender l with seq := { (s.sender l).seq with state := .gap, spacingDue := some due } } :=
  State.sender_modSeq l _ s

@[simp] theorem finish_sender (l : Lane) (r : ActiveRequest) (c : Code) (detail : Byte) (s : State) :
    (finish l r c detail s).sender l =
      (s.sender l).completed (completionOf l c r.entry.tag r.entry.profile r.started detail s) :=
  complete_sender l _ s

@[simp] theorem answer_sender (l : Lane) (e : RequestEntry) (c : Code) (profile detail : Byte) (s : State) :
    (answer l e c profile detail s).sender l = (s.sender l).completed (completionOf l c e.tag profile 0 detail s) :=
  complete_sender l _ s

@[simp] theorem advanceHead_sender (l : Lane) (s : State) : (advanceHead l s).sender l = s.sender l :=
  State.sender_modLane l _ s

@[simp] theorem setEndCause_sender (l : Lane) (r : ActiveRequest) (cause : Option Code) (s : State) :
    (setEndCause l r cause s).sender l =
      { s.sender l with seq := { (s.sender l).seq with active := some { r with endCause := cause } } } :=
  State.sender_modSeq l _ s

@[simp] theorem enterEnding_sender (l : Lane) (r : ActiveRequest) (cause : Code) (s : State) :
    (enterEnding l r cause s).sender l =
      { s.sender l with seq := { (s.sender l).seq with state := .ending, active := some { r with endCause := some cause },
                                                       limitDue := none } } :=
  State.sender_modSeq l _ s

section
variable {l : Lane} {s : State} {running served : Prop} {r : ActiveRequest}

/-- A request that runs goes over to another of its states, its place at the bus port as it was. -/
theorem Sender.Works.next {x y : Sender} (h : x.Works running served) (hruns : x.seq.state.runs = true)
    (hlist : x.seq.state ≠ .listFetch) (hr : y.seq.active = some r)
    (hkept : y.seq.taken = x.seq.taken ∧ y.seq.completion = x.seq.completion ∧ y.place = x.place)
    (hnext : y.seq.state.runs = true ∧ y.seq.state ≠ .listFetch) (hline : y.onLine = y.seq.state.onLine)
    (hcause : y.seq.state = .ending → r.endCause.isSome) : y.Works running served := by
  obtain ⟨-, htaken, hdone, hserved, hentry⟩ := h.of_runs hruns
  obtain ⟨hsameTaken, hsameDone, hplace⟩ := hkept
  obtain ⟨hthen, hnoList⟩ := hnext
  refine works_of_running hthen hr (hsameTaken.trans htaken) (hsameDone.trans hdone) hserved hline
    (fun hl => absurd hl hnoList) hcause (hplace ▸ hentry) fun hrun hp => ?_
  exact absurd (hplace ▸ hp) (h.no_list hlist hrun)

/-- What `Outstanding` says of the sender's place. -/
theorem purpose_of_outstanding {p : Purpose} (h : Outstanding s (.sequencer l) p) :
    (s.sender l).place.purpose = some p := by
  obtain ⟨-, t, hplace, rfl⟩ := h
  show (s.busSlot (.sequencer l)).purpose = _
  rw [hplace]
  rfl

/-! ## Entries -/

/-- A sender in IDLE enters FETCH (R85). -/
theorem works_beginFetch (h : (s.sender l).Works running served) (hidle : (s.lane l).seq.state = .idle) :
    ((beginFetch l s).sender l).Works running served := by
  have hstate : (s.sender l).seq.state = .idle := hidle
  unfold beginFetch
  rw [askBus_sender, State.sender_modSeq]
  refine works_of_resting (.inr rfl) ?_ ?_ (h.resting (.inl hstate)) (fun hs => by simp [h.serves hs] at hstate)
    (h.offLine (by rw [hstate]; rfl)) (fun _ _ => rfl) fun hrun hp => ?_
  · exact Option.not_isSome_iff_eq_none.mp fun hc => by simp [h.completion.mp hc] at hstate
  · exact Option.not_isSome_iff_eq_none.mp fun ht => by simp [h.taken ht] at hstate
  · rcases BusSlot.asking_purpose (entryRead (s.lane l).queue) (s.sender l).place with hasked | hasked
    · exact absurd (hasked.symm.trans hp) (by simp [entryRead])
    · exact absurd (hasked.symm.trans hp) (h.no_list (by simp [hstate]) hrun)

/-- The sender whose entry read has ended: in FETCH, its place free. -/
theorem works_of_entryRead (hrun : running) (h : (s.sender l).Works running served)
    (hread : Outstanding s (.sequencer l) .requestEntry) :
    (s.lane l).seq.state = .fetch ∧ (s.sender l).onLine = false := by
  obtain ⟨hfetch, -⟩ := h.entryRead hrun (purpose_of_outstanding hread)
  exact ⟨hfetch, h.offLine (by rw [hfetch]; rfl)⟩

/-- A sender with a free place and a free line completes (R98). -/
theorem works_completed_of_free {x : Sender} {c : Completion} (hline : x.onLine = false) (hplace : x.place = .idle) :
    (x.completed c).Works running served :=
  .completed hline (fun _ => by rw [hplace]; exact ⟨nofun, nofun⟩)

theorem works_takeEntry (hrun : running) (h : (s.sender l).Works running served)
    (hread : Outstanding s (.sequencer l) .requestEntry) (e : RequestEntry) :
    ((takeEntry l e (s.setBus (.sequencer l) .idle)).sender l).Works running served := by
  obtain ⟨hfetch, hline⟩ := works_of_entryRead hrun h hread
  unfold takeEntry countFlushed
  dsimp only
  split
  · simp only [answer_sender, State.sender_modSeq, advanceHead_sender, State.sender_setBus]
    exact works_completed_of_free hline rfl
  · split
    · simp only [answer_sender, advanceHead_sender, State.sender_setBus]
      exact works_completed_of_free hline rfl
    · simp only [State.sender_modSeq, advanceHead_sender, State.sender_setBus]
      exact ⟨h.completion, h.line, fun _ => hfetch, h.active, h.resting, h.raw, h.cause, fun _ => rfl, nofun, nofun,
        h.serves⟩

theorem works_faults (hrun : running) (h : (s.sender l).Works running served)
    (hread : Outstanding s (.sequencer l) .requestEntry) (f : LaneState → RequestQueue)
    (g : LaneState → Option AbortWork) (c : Completion) :
    ((complete l c ((s.setBus (.sequencer l) .idle).modLane l fun x =>
      { x with queue := f x, seq := { x.seq with abort := g x } })).sender l).Works running served := by
  obtain ⟨-, hline⟩ := works_of_entryRead hrun h hread
  rw [complete_sender, State.sender_modLane]
  exact works_completed_of_free hline (State.setBus_busSlot_self _ _ .idle)

/-- An entry read that waited for its place asks (R85, log entry 13). -/
theorem works_asksEntry (h : (s.sender l).Works running served) (hfetch : (s.lane l).seq.state = .fetch)
    (hplace : s.busSlot (.sequencer l) ≠ .idle) (q : RequestQueue) :
    ((askBus (.sequencer l) (entryRead q) (s.setBus (.sequencer l) .idle)).sender l).Works running served := by
  have hstate : (s.sender l).seq.state = .fetch := hfetch
  rw [askBus_sender, State.sender_setBus]
  refine works_of_resting (.inr hfetch) ?_ ?_ (h.resting (.inr hfetch)) (fun hs => by simp [h.serves hs] at hstate)
    (h.offLine (by rw [hstate]; rfl)) (fun _ _ => hfetch) fun _ => by simp [BusSlot.asking, BusSlot.purpose, entryRead]
  · exact Option.not_isSome_iff_eq_none.mp fun hc => by simp [h.completion.mp hc] at hstate
  · exact Option.not_isSome_iff_eq_none.mp fun ht => hplace (h.free ht)

/-! ## Activation and the pair list -/

theorem works_activate (h : (s.sender l).Works running served) {e : RequestEntry}
    (he : (s.lane l).seq.taken = some e) (kind : RequestKind) :
    ((activate l e kind s).sender l).Works running served := by
  have htaken : (s.sender l).seq.taken.isSome := Option.isSome_iff_exists.mpr ⟨e, he⟩
  have hfetch := h.taken htaken
  have hplace := h.free htaken
  have hline := h.offLine (by rw [hfetch]; rfl)
  have hserved : ¬ served := fun hs => by simp [h.serves hs] at hfetch
  have hdone : (s.sender l).seq.completion = none :=
    Option.not_isSome_iff_eq_none.mp fun hc => by simp [h.completion.mp hc] at hfetch
  unfold activate
  split
  · dsimp only
    split
    · rw [finish_sender, State.sender_modSeq]
      exact works_completed_of_free hline hplace
    · split
      · rename_i hraw
        simp only [askBus_sender, State.sender_modSeq, hplace]
        exact works_of_running (r := activeOf s kind e) rfl rfl rfl hdone hserved hline
          (fun _ => hraw) nofun (by simp [BusSlot.asking, BusSlot.purpose, listRead]) (fun _ _ => rfl)
      · unfold firstGap
        rw [enterGap_sender, State.sender_modSeq]
        exact works_of_running (r := activeOf s kind e) rfl rfl rfl hdone hserved hline nofun nofun
          (fun _ => by rw [hplace]; nofun) (fun _ => by rw [hplace]; nofun)
  · rw [answer_sender]
    exact works_completed_of_free hline hplace

theorem works_activationTaken (h : (s.sender l).Works running served) :
    ((activationTaken l s).sender l).Works running served := by
  unfold activationTaken
  split
  · exact h
  · rename_i e he
    split
    · exact h
    · exact works_activate h he _

/-- A wanted list read has ended: its sender is in LIST_FETCH. -/
theorem works_of_listRead (hrun : running) (h : (s.sender l).Works running served)
    (hread : Outstanding s (.sequencer l) (.pairList false)) :
    (s.sender l).seq.state.runs = true ∧ (s.sender l).onLine = false := by
  have hlist := h.listRead hrun (purpose_of_outstanding hread)
  exact ⟨by rw [hlist]; rfl, h.offLine (by rw [hlist]; rfl)⟩

theorem works_listArrives (hrun : running) (h : (s.sender l).Works running served)
    (hread : Outstanding s (.sequencer l) (.pairList false)) (r : ActiveRequest) (pairs : List RawPair) :
    ((listArrives l r pairs (s.setBus (.sequencer l) .idle)).sender l).Works running served := by
  obtain ⟨hruns, hline⟩ := works_of_listRead hrun h hread
  obtain ⟨-, htaken, hdone, hserved, -⟩ := h.of_runs hruns
  unfold listArrives
  split
  · unfold firstGap
    rw [enterGap_sender, State.sender_modSeq, State.sender_setBus]
    exact works_of_running (r := { r with pairs := pairs }) rfl rfl htaken hdone hserved hline nofun nofun
      (fun _ => nofun) (fun _ => nofun)
  · rw [finish_sender, State.sender_setBus]
    exact works_completed_of_free hline rfl

theorem works_unlisted (hrun : running) (h : (s.sender l).Works running served)
    (hread : Outstanding s (.sequencer l) (.pairList false)) (r : ActiveRequest) (c : Code) :
    ((finish l r c 0 (s.setBus (.sequencer l) .idle)).sender l).Works running served := by
  rw [finish_sender, State.sender_setBus]
  exact works_completed_of_free (works_of_listRead hrun h hread).2 rfl

/-! ## Timers -/

theorem works_startTransmission (h : (s.sender l).Works running served) (hr : (s.lane l).seq.active = some r)
    (hruns : (s.lane l).seq.state.runs = true) (hlist : (s.lane l).seq.state ≠ .listFetch) (forced : Bool) :
    ((startTransmission l forced s).sender l).Works running served := by
  rw [startTransmission_sender hr]
  exact h.started hruns hlist r _

theorem works_spacingExpires (h : (s.sender l).Works running served) :
    ((spacingExpires l s).sender l).Works running served := by
  unfold spacingExpires
  dsimp only
  split
  · split
    · rename_i r hstate hr
      have hruns := congrArg SeqState.runs hstate
      have hlist : (s.lane l).seq.state ≠ .listFetch := by simp [hstate]
      split
      · unfold deferOrStart
        dsimp only
        split
        · rw [State.sender_modSeq]
          exact h.next hruns hlist hr ⟨rfl, rfl, rfl⟩ ⟨rfl, nofun⟩ (h.offLine (congrArg SeqState.onLine hstate)) nofun
        · exact works_startTransmission h hr hruns hlist false
      · exact works_startTransmission h hr hruns hlist false
    · rename_i r hstate hr
      exact works_startTransmission h hr (congrArg SeqState.runs hstate) (by simp [hstate]) false
    · exact h
  · exact h

theorem works_deferExpires (h : (s.sender l).Works running served) :
    ((deferExpires l s).sender l).Works running served := by
  unfold deferExpires
  dsimp only
  split
  · split
    · rename_i r hstate hr
      have hruns := congrArg SeqState.runs hstate
      have hlist : (s.lane l).seq.state ≠ .listFetch := by simp [hstate]
      split
      · rw [finish_sender]
        exact h.complete_running hruns (congrArg SeqState.onLine hstate) hlist
      · exact works_startTransmission h hr hruns hlist true
    · exact h
  · exact h

/-- A hold with nothing on the line ends (R105, R107). -/
theorem works_endHold (h : (s.sender l).Works running served) (hruns : (s.lane l).seq.state.runs = true)
    (hline : (s.lane l).seq.state.onLine = false) (hlist : (s.lane l).seq.state ≠ .listFetch) (r : ActiveRequest)
    (cause : Code) : ((endHold l r cause s).sender l).Works running served := by
  unfold endHold
  rw [finish_sender, setEndCause_sender]
  exact .completed (h.offLine hline) (fun hrun => ⟨h.no_entry hruns hrun, h.no_list hlist hrun⟩)

/-- A hold's transmission runs on in ENDING (R105, R107). -/
theorem works_enterEnding (h : (s.sender l).Works running served) (hsending : (s.lane l).seq.state = .sending)
    (r : ActiveRequest) (cause : Code) : ((enterEnding l r cause s).sender l).Works running served := by
  rw [enterEnding_sender]
  have hline : (s.sender l).onLine = true := h.line.mpr (congrArg SeqState.onLine hsending)
  exact h.next (congrArg SeqState.runs hsending) (fun hl => nomatch hsending.symm.trans hl) rfl ⟨rfl, rfl, rfl⟩
    ⟨rfl, nofun⟩ hline fun _ => rfl

theorem works_holdLimitExpires (h : (s.sender l).Works running served) :
    ((holdLimitExpires l s).sender l).Works running served := by
  unfold holdLimitExpires
  dsimp only
  split
  · split
    · rename_i r hstate hr
      exact works_enterEnding h hstate r _
    · rename_i r hstate hr
      exact works_endHold h (congrArg SeqState.runs hstate) (congrArg SeqState.onLine hstate) (by simp [hstate]) r _
    · exact h
  · exact h

theorem works_replyExpires (h : (s.sender l).Works running served) :
    ((replyExpires l s).sender l).Works running served := by
  unfold replyExpires
  dsimp only
  split
  · split
    · rename_i r hstate hr
      have hruns := congrArg SeqState.runs hstate
      have hlist : (s.lane l).seq.state ≠ .listFetch := by simp [hstate]
      have hline := h.offLine (congrArg SeqState.onLine hstate)
      split
      · rw [enterGap_sender, State.sender_modSeq]
        exact h.next hruns hlist hr ⟨rfl, rfl, rfl⟩ ⟨rfl, nofun⟩ hline nofun
      · rw [finish_sender]
        exact h.complete_running hruns (congrArg SeqState.onLine hstate) hlist
    · exact h
  · exact h

/-! ## The end of a transmission, RELEASE and abort -/

theorem SeqState.onLine_iff {q : SeqState} : q.onLine = true ↔ q = .sending ∨ q = .ending := by
  cases q <;> simp [SeqState.onLine]

/-- A transmission is on the line in SENDING and ENDING (R103). -/
theorem Sender.Works.sends {x : Sender} (h : x.Works running served) (hline : x.onLine = true) :
    x.seq.state = .sending ∨ x.seq.state = .ending :=
  SeqState.onLine_iff.mp (h.line.mp hline)

theorem works_transmissionEnds (h : (s.sender l).Works running served) :
    ((transmissionEnds l s).sender l).Works running served := by
  unfold transmissionEnds
  dsimp only
  split
  · rename_i t r htx hr
    split
    · have hline : (s.sender l).onLine = true := by simp [State.sender, htx]
      have hstate := h.sends hline
      have hruns : (s.sender l).seq.state.runs = true := by rcases hstate with hs | hs <;> rw [hs] <;> rfl
      have hlist : (s.sender l).seq.state ≠ .listFetch := by rcases hstate with hs | hs <;> rw [hs] <;> nofun
      have hoff := leaveLine_sender (s := s) (l := l) r (by rcases hstate with hs | hs <;> exact hs ▸ nofun)
        (by rcases hstate with hs | hs <;> exact hs ▸ nofun)
      have hends : ∀ (u : State) c, u.sender l = (leaveLine l r s).sender l → ((finish l r c 0 u).sender l).Works running served := by
        intro u c hu
        rw [finish_sender, hu, hoff]
        exact .completed rfl (fun hrun => ⟨h.no_entry hruns hrun, h.no_list hlist hrun⟩)
      unfold afterTransmission
      split
      · split
        · rw [enterGap_sender, hoff]
          exact h.next hruns hlist hr ⟨rfl, rfl, rfl⟩ ⟨rfl, nofun⟩ rfl nofun
        · exact hends _ _ rfl
      · split
        · rw [enterGap_sender, hoff]
          exact h.next hruns hlist hr ⟨rfl, rfl, rfl⟩ ⟨rfl, nofun⟩ rfl nofun
        · exact hends _ _ rfl
      · split
        · exact hends _ _ rfl
        · rw [State.sender_modSeq, hoff]
          exact h.next hruns hlist hr ⟨rfl, rfl, rfl⟩ ⟨rfl, nofun⟩ rfl nofun
      · rw [State.sender_modSeq, hoff]
        exact h.next hruns hlist hr ⟨rfl, rfl, rfl⟩ ⟨rfl, nofun⟩ rfl nofun
    · exact h
  · exact h

/-- A RELEASE meets a hold that reads no list and has no end cause (R107). -/
theorem works_releaseHold {tag : Half} {t : State} (h : (s.sender l).Works running served)
    (hrelease : releaseHold l tag s = some t) : (t.sender l).Works running served := by
  unfold releaseHold at hrelease
  dsimp only at hrelease
  split at hrelease
  · cases hrelease
  · rename_i r hreleasable
    obtain ⟨hr, hkind, -, hcause, hposting⟩ := Sequencer.releasable_eq_some_iff.mp hreleasable
    have hruns : (s.sender l).seq.state.runs = true := h.runs hr hposting
    have hlist : (s.sender l).seq.state ≠ .listFetch := fun hl => by simp [h.raw hl r hr] at hkind
    have hending : (s.sender l).seq.state ≠ .ending := fun he => by
      have := h.cause he r hr
      simp [hcause] at this
    by_cases hsending : (s.lane l).seq.state = .sending
    · rw [hsending] at hrelease
      rw [← Option.some.inj hrelease]
      exact works_enterEnding h hsending r _
    · have hline : (s.lane l).seq.state.onLine = false :=
        Bool.eq_false_iff.mpr (mt SeqState.onLine_iff.mp (not_or.mpr ⟨hsending, hending⟩))
      have ht : endHold l r .released s = t := by
        split at hrelease
        · contradiction
        all_goals exact Option.some.inj hrelease
      rw [← ht]
      exact works_endHold h hruns hline hlist r _

/-- An abort of the active request: a list read is discarded, a transmission cut, and the request completes (R100). -/
theorem works_abortActive (h : (s.sender l).Works running served) (hr : (s.lane l).seq.active = some r)
    (hposting : (s.lane l).seq.state ≠ .posting) : ((abortActive l r s).sender l).Works running served := by
  have hruns := h.runs hr hposting
  obtain ⟨hlist, hentry⟩ := listUnwanted_purpose (s.sender l).place
  have hplace : running → (listUnwanted (s.sender l).place).purpose ≠ some .requestEntry ∧
      (listUnwanted (s.sender l).place).purpose ≠ some (.pairList false) :=
    fun hrun => ⟨fun hp => h.no_entry hruns hrun (hentry hp), hlist⟩
  have hmarked : (setEndCause l r none (discardListRead l s)).sender l =
      { s.sender l with seq := { (s.lane l).seq with active := some { r with endCause := none } },
                        place := listUnwanted (s.sender l).place } := by
    rw [setEndCause_sender, discardListRead_sender]
    rfl
  unfold abortActive
  dsimp only
  rw [finish_sender]
  generalize setEndCause l r none (discardListRead l s) = u at hmarked ⊢
  split
  · rename_i htx
    rw [hmarked]
    have hline : (s.sender l).onLine = (u.lane l).tx.isSome := (congrArg Sender.onLine hmarked).symm
    exact .completed (by rw [hline, htx]; rfl) hplace
  · rename_i t htx
    have hline : (s.sender l).onLine = (u.lane l).tx.isSome := (congrArg Sender.onLine hmarked).symm
    have hstate := h.sends (by rw [hline, htx]; rfl)
    have hsame : (u.lane l).seq.state = (s.sender l).seq.state := by
      show (u.sender l).seq.state = _
      rw [hmarked]
      rfl
    rw [leaveLine_sender r (by rw [hsame]; rcases hstate with hs | hs <;> exact hs ▸ nofun)
      (by rw [hsame]; rcases hstate with hs | hs <;> exact hs ▸ nofun), hmarked]
    exact .completed rfl hplace

theorem works_abortInHand (h : (s.sender l).Works running served) (flush : Bool) :
    ((abortInHand l flush s).1.sender l).Works running served := by
  unfold abortInHand
  dsimp only
  split
  · exact h
  · rename_i r hr hposting
    exact works_abortActive h hr fun hp => hposting hp
  · rename_i e hstate hactive htaken
    split
    · rw [answer_sender]
      exact works_completed_of_free (h.offLine (congrArg SeqState.onLine hstate))
        (h.free (Option.isSome_iff_exists.mpr ⟨e, htaken⟩))
    · exact h
  · exact h

end

end Sys2Proof.Machine
end

section
/-! Every effect of a step keeps each lane working on one request at a time. -/

namespace Sys2Proof.Machine

open Sys2Proof.Claims

/-! ## Effects on the part -/

/-- A lane whose sender is as it was, with the engine and the write in flight as they were. -/
theorem LaneWorks.of_same {s t : State} {l : Lane} (h : LaneWorks s l) (hengine : t.engine = s.engine)
    (hflight : t.writer.inFlight = s.writer.inFlight) (hsender : t.sender l = s.sender l) : LaneWorks t l := by
  unfold LaneWorks State.serves
  rw [hengine, hflight, hsender]
  exact h

/-- The senders do not tell that the event writer serves fewer of them, or that the engine stops running. -/
theorem Sender.Works.weaken {x : Sender} {running served running' served' : Prop} (h : x.Works running served)
    (hrun : running' → running) (hserved : served' → served) : x.Works running' served' :=
  { h with entryRead := fun hr => h.entryRead (hrun hr), listRead := fun hr => h.listRead (hrun hr),
           serves := fun hs => h.serves (hserved hs) }

/-- A client's place may be freed. -/
theorem Sender.Works.freed {x : Sender} {running served : Prop} (h : x.Works running served) :
    Sender.Works { x with place := .idle } running served :=
  { h with free := fun _ => rfl, entryRead := nofun, listRead := nofun }

/-- A sender of a lane at rest, nothing asked of the bus port. -/
theorem works_reset {x : Sender} {running served : Prop} (hseq : x.seq = Sequencer.reset) (hline : x.onLine = false)
    (hplace : running → x.place = .idle) (hserved : ¬ served) : x.Works running served :=
  works_of_resting (.inl (by rw [hseq]; rfl)) (by rw [hseq]; rfl) (by rw [hseq]; rfl) (by rw [hseq]; rfl) hserved hline
    (fun hrun hp => by rw [hplace hrun] at hp; cases hp) (fun hrun hp => by rw [hplace hrun] at hp; cases hp)

/-- An update of a lane that leaves its sequencer and its line alone leaves every sender alone. -/
theorem State.sender_setLane_same {s : State} {l : Lane} {x : LaneState} (l' : Lane)
    (hseq : x.seq = (s.lane l).seq) (htx : x.tx = (s.lane l).tx) : (s.setLane l x).sender l' = s.sender l' := by
  by_cases hl : l' = l
  · subst hl
    simp [State.sender, hseq, htx]
  · simp [State.sender, State.setLane_lane_ne _ _ hl]

@[simp] theorem enterOutbox_sender (l : Lane) (ev : RxEvent) (s : State) :
    (enterOutbox l ev s).sender l = s.sender l := by
  rcases enterOutbox_cases l ev s with ⟨-, h⟩ | ⟨-, h⟩ <;> rw [h]
  · exact State.sender_setLane_same l rfl rfl
  · exact (bump_sender l _ _).trans (State.sender_modLane l _ s)

theorem LaneEffect.works {l : Lane} {s t : State} (heffect : LaneEffect l s t) (h : LaneWorks s l) :
    (t.sender l).Works (s.engine = .running) (s.serves l) := by
  have hsame : t.sender l = s.sender l → (t.sender l).Works (s.engine = .running) (s.serves l) := by
    intro ht
    rw [ht]
    exact h
  cases heffect with
  | changesPin high => exact h.hears (heard_takePinEdge l high s)
  | confirms => exact h.hears (heard_confirmHeld l s)
  | crosses => exact h.hears (heard_crossingsNow l s)
  | closesPress => exact hsame (sender_of_holdings (closePress_holdings l s))
  | closesGate => exact hsame (State.sender_modLane l _ s)
  | clearsCounters => exact hsame (State.sender_modLane l _ s)
  | unblinds => exact h.hears (heard_withdrawBlind l s)
  | asksCapture tr => exact hsame (askCapture_sender l tr s)
  | captured hc q busError => exact hsame ((enterOutbox_sender l _ _).trans (State.sender_modLane l _ s))
  | changesQueue f => exact hsame (State.sender_modLane l _ s)
  | appliesSettings new command =>
    exact h.hears ((((heard_settlePressAndGate l new command s).trans (heard_quietDecoder l _)).trans
      (heard_of_same (State.sender_modLane l _ _))).trans (heard_restartInput l _))
  | fetches hidle => exact works_beginFetch h hidle
  | takes hread e => exact works_takeEntry hread.1 h hread e
  | faults hread f g c => exact works_faults hread.1 h hread f g c
  | activates => exact works_activationTaken h
  | listed hread hr pairs => exact works_listArrives hread.1 h hread _ pairs
  | unlisted hread r c => exact works_unlisted hread.1 h hread r c
  | asksEntry hfetch hplace q => exact works_asksEntry h hfetch hplace q
  | spaces => exact works_spacingExpires h
  | ends => exact works_transmissionEnds h
  | defers => exact works_deferExpires h
  | limits => exact works_holdLimitExpires h
  | replies => exact works_replyExpires h
  | releases hrelease => exact works_releaseHold h hrelease
  | aborts flush => exact works_abortInHand h flush
  | notesAbort work =>
    rw [State.sender_modSeq]
    exact { h with }

/-- The other lanes' senders are out of reach of a lane's happening. -/
theorem OnlyLane.sender {l l' : Lane} {s t : State} (h : OnlyLane l s t) (hl : l' ≠ l) : t.sender l' = s.sender l' := by
  unfold State.sender
  rw [h.lanes l' hl, h.clients (.sequencer l') (by simpa using hl) (by simp)]

theorem LaneEffect.oneRequestEach {l : Lane} {s t : State} (heffect : LaneEffect l s t) (h : ∀ l', LaneWorks s l')
    (l' : Lane) : LaneWorks t l' := by
  have honly := heffect.onlyLane
  have hflight := congrArg EventWriter.inFlight honly.writer
  by_cases hl : l' = l
  · subst hl
    have hworks := heffect.works (h l')
    unfold LaneWorks State.serves
    rw [honly.engine, hflight]
    exact hworks
  · exact (h l').of_same honly.engine hflight (honly.sender hl)

/-- What the event writer begins to serve is a completion that waits (R99, R125). -/
theorem laneWorks_chooses {s : State} {l : Lane} (h : LaneWorks s l) : LaneWorks (chooseEvent s) l := by
  have hsender : (chooseEvent s).sender l = s.sender l := by
    unfold State.sender
    rw [chooseEvent_lane, chooseEvent_busSlot s (by simp)]
  unfold LaneWorks
  rw [hsender, chooseEvent_engine]
  rcases chooseEvent_cases s with ⟨w, q, -, -, hnext, hchoice⟩ | hchoice
  · refine { h with serves := fun ⟨q', hflight⟩ => ?_ }
    have hinFlight : (chooseEvent s).writer.inFlight = some (w, q) := by
      rw [hchoice]
      rcases askBus_cases .eventWriter (eventWrite s w q)
        { s with writer := { s.writer with inFlight := some (w, q) } } with ⟨-, hask⟩ | ⟨-, hask⟩
      · rw [hask]
        rfl
      · rw [hask]
    obtain ⟨rfl, -⟩ := Prod.mk.inj (Option.some.inj (hinFlight.symm.trans hflight))
    obtain ⟨hoffer, -⟩ := servable_eq_some.mp (nextServed_servable hnext)
    obtain ⟨c, hc, -⟩ := Option.map_eq_some_iff.mp hoffer
    exact h.completion.mp (Option.isSome_iff_exists.mpr ⟨c, hc⟩)
  · rw [hchoice]
    exact h

/-- A grant leaves a transaction's purpose as it is (R174). -/
theorem laneWorks_grants {s : State} {l : Lane} (h : LaneWorks s l) : LaneWorks (startTransaction s) l := by
  rcases startTransaction_cases s with ⟨i, t, -, hpending, hstart⟩ | hstart <;> rw [hstart]
  · by_cases hi : i = busIndex (.sequencer l)
    · have hplace : s.busSlot (.sequencer l) = .pending t := by
        rw [← State.bus_slots_getElem]
        simpa [hi] using hpending
      have hseen : (State.sender { s with bus := { slots := s.bus.slots.set i.val (.outstanding t), pointer := i + 1 } } l) =
          { s.sender l with place := .outstanding t } := by
        unfold State.sender State.busSlot
        simp [hi]
      unfold LaneWorks
      rw [hseen]
      have hpurpose : ∀ p, BusSlot.purpose (.outstanding t) = some p → (s.sender l).place.purpose = some p := by
        intro p hp
        show (s.busSlot (.sequencer l)).purpose = _
        rw [hplace]
        exact hp
      refine { h with free := fun ht => ?_, entryRead := fun hrun hp => h.entryRead hrun (hpurpose _ hp),
                      listRead := fun hrun hp => h.listRead hrun (hpurpose _ hp) }
      have hidle : s.busSlot (.sequencer l) = .idle := h.free ht
      simp [hplace] at hidle
    · refine h.of_same rfl rfl ?_
      have hne : i.val ≠ (busIndex (.sequencer l)).val := fun he => hi (Fin.ext he)
      unfold State.sender State.busSlot
      simp [hne]
  · exact h

/-- A reset of a lane leaves its sequencer and its transmission alone (R154). -/
theorem resetLane_sender (l l' : Lane) (s : State) : (resetLane l s).sender l' = s.sender l' := by
  unfold resetLane
  dsimp only
  rcases discardCaptureWrite_cases l s with hd | ⟨x, hd⟩
  · rw [hd, ite_self]
    exact State.sender_setLane_same l' rfl rfl
  · rw [hd]
    have hplace : (s.setBus (.captureWriter l) x).sender l' = s.sender l' := by simp [State.sender]
    split
    · refine .trans ?_ hplace
      exact State.sender_setLane_same l' rfl rfl
    · exact State.sender_setLane_same l' rfl rfl

theorem resetLane_inFlight (l : Lane) (s : State) : (resetLane l s).writer.inFlight = s.writer.inFlight := by
  unfold resetLane
  dsimp only
  rcases discardCaptureWrite_cases l s with hd | ⟨x, hd⟩ <;> rw [hd]
  · rw [ite_self]
    rfl
  · split <;> rfl

/-- An event that leaves its outbox is no matter of the sender's. -/
theorem leaveOutbox_sender (l l' : Lane) (s : State) : (leaveOutbox l s).sender l' = s.sender l' := by
  have hreleased : ∀ ev u, (releaseHeld ev u).sender l' = u.sender l' := by
    intro ev u
    unfold releaseHeld
    split <;> rfl
  unfold leaveOutbox
  dsimp only
  split
  · exact (hreleased _ _).trans (State.sender_setLane_same l' rfl rfl)
  · split
    · rfl
    · exact (hreleased _ _).trans (State.sender_setLane_same l' rfl rfl)

theorem leaveOutbox_inFlight (l : Lane) (s : State) : (leaveOutbox l s).writer.inFlight = s.writer.inFlight := by
  have hreleased : ∀ ev u, (releaseHeld ev u).writer.inFlight = u.writer.inFlight := by
    intro ev u
    unfold releaseHeld
    split <;> rfl
  unfold leaveOutbox
  dsimp only
  split
  · exact hreleased _ _
  · split
    · rfl
    · exact hreleased _ _

theorem dropSettling_sender (l l' : Lane) (s : State) : (dropSettling l s).sender l' = s.sender l' := by
  unfold dropSettling
  dsimp only
  split
  · rfl
  · split <;> exact State.sender_setLane_same l' rfl rfl

theorem dropSettling_inFlight (l : Lane) (s : State) : (dropSettling l s).writer.inFlight = s.writer.inFlight := by
  unfold dropSettling
  dsimp only
  split
  · rfl
  · split <;> rfl

/-- A completion that is written leaves its lane in IDLE, and the event writer free (R99). -/
theorem laneWorks_completes {s : State} {l : Lane} {q : EqId} (hs : ∀ l', LaneWorks s l')
    (hflight : s.writer.inFlight = some (.sequencer l, q)) (l' : Lane) :
    LaneWorks ((writeOver (.sequencer l) s).modSeq l fun q =>
      { q with state := .idle, active := none, completion := none }) l' := by
  have hserves : ∀ u : State, u.writer.inFlight = none → ¬ u.serves l' := by
    rintro u hu ⟨q', hq'⟩
    simp [hu] at hq'
  by_cases hl : l' = l
  · subst hl
    have h := hs l'
    have hposting : (s.sender l').seq.state = .posting := h.serves ⟨q, hflight⟩
    unfold LaneWorks
    rw [State.sender_modSeq]
    refine works_of_resting (.inl rfl) rfl ?_ rfl (hserves _ rfl) (h.offLine (congrArg SeqState.onLine hposting))
      (fun hrun hp => ?_) fun hrun => h.no_list (by simp [hposting]) hrun
    · exact Option.not_isSome_iff_eq_none.mp fun ht => by simpa [hposting] using h.taken ht
    · have := (h.entryRead hrun hp).1
      simp [hposting] at this
  · have hsender : ((writeOver (.sequencer l) s).modSeq l fun q =>
        { q with state := .idle, active := none, completion := none }).sender l' = s.sender l' := by
      unfold State.sender
      rw [State.modSeq_lane_ne _ _ hl]
      rfl
    unfold LaneWorks
    rw [hsender]
    exact (hs l').weaken id fun hserved => absurd hserved (hserves _ rfl)

/-- Every effect keeps each lane at one request. -/
theorem oneRequestEach_effect {s t : State} (heffect : Effect s t) (hs : OneRequestEach s) : OneRequestEach t := by
  rw [oneRequestEach_iff] at hs ⊢
  cases heffect with
  | elsewhere he =>
    intro l
    refine (hs l).of_same he.engine he.inFlight ?_
    unfold State.sender
    rw [he.lane l, he.places l]
  | lane hlane => exact hlane.oneRequestEach hs
  | chooses => exact fun l => laneWorks_chooses (hs l)
  | frees c =>
    intro l
    by_cases hc : c = .sequencer l
    · subst hc
      unfold LaneWorks
      rw [State.sender_setBus]
      exact (hs l).freed
    · exact (hs l).of_same rfl rfl (by simp [State.sender, State.setBus_busSlot_ne s _ (Ne.symm hc)])
  | grants => exact fun l => laneWorks_grants (hs l)
  | reachesOff => exact fun l => (hs l).weaken nofun id
  | stops =>
    intro l
    have hlane : (stopBlocks s).lane l = (s.lane l).stopped := by simp [stopBlocks]
    exact works_reset (by simp [State.sender, hlane]; rfl) (by simp [State.sender, hlane]; rfl) nofun
      (by simp [State.serves, stopBlocks, EventWriter.reset])
  | resets =>
    intro l
    have hlane : (resetBlocks s).lane l = (s.lane l).engineReset := by simp [resetBlocks]
    exact works_reset (by simp [State.sender, hlane]; rfl) (by simp [State.sender, hlane]; rfl) nofun
      (by simp [State.serves, resetBlocks, State.reset, EventWriter.reset])
  | powersOn =>
    intro l
    have hlane : (powerOn s).lane l = (s.lane l).engineReset := by simp [powerOn]
    exact works_reset (by simp [State.sender, hlane]; rfl) (by simp [State.sender, hlane]; rfl) nofun
      (by simp [State.serves, powerOn, State.reset, EventWriter.reset])
  | runs =>
    intro l
    have hlane : (enterRunning s).lane l = (s.lane l).started := by simp [enterRunning]
    have hstarted : (s.lane l).started.seq = Sequencer.reset ∧ (s.lane l).started.tx = none := by
      unfold LaneState.started
      dsimp only
      split <;> exact ⟨rfl, rfl⟩
    exact works_reset (by simp [State.sender, hlane, hstarted]) (by simp [State.sender, hlane, hstarted])
      (fun _ => by simp [State.sender, enterRunning, BusPort.reset])
      (by simp [State.serves, enterRunning, EventWriter.reset])
  | posts hpost =>
    unfold postBuffer at hpost
    rw [Option.ite_none_right_eq_some] at hpost
    rw [← Option.some.inj hpost.2]
    exact fun l => (hs l).of_same rfl rfl rfl
  | resetsLane l => exact fun l' => (hs l').of_same (by simp) (resetLane_inFlight l s) (resetLane_sender l l' s)
  | writesOver w => exact fun l => (hs l).weaken id fun ⟨_, hq⟩ => nomatch hq
  | completes hflight => exact fun l => laneWorks_completes hs hflight l
  | leaves l => exact fun l' => (hs l').of_same (by simp) (leaveOutbox_inFlight l s) (leaveOutbox_sender l l' s)
  | drops l => exact fun l' => (hs l').of_same (by simp) (dropSettling_inFlight l s) (dropSettling_sender l l' s)

/-- Settles O60: every effect of a step keeps each lane at one request (`oneRequestEach_effect`). -/
theorem oneRequestKeptByEveryStep : Obligations.OneRequestKeptByEveryStep :=
  fun _ _ => step_keeps fun _ _ => oneRequestEach_effect

end Sys2Proof.Machine
end

section
/-! The timers of a request (R97, R105, R112, R115), the reply test (R114), the taking of entries (R85 to R88) and the pair
list (R94): what each makes of the sequencer, as an update of the whole state. -/

namespace Sys2Proof.Machine

open Sys2Proof.Claims

/-! ## Ends of requests -/

/-- The active request completes (R98). -/
theorem finish_eq_posting (l : Lane) (r : ActiveRequest) (c : Code) (detail : Byte) (s : State) :
    finish l r c detail s =
      s.setLane l { s.lane l with
        seq := posting (s.lane l).seq (completion s l c r.entry.tag r.entry.profile r.started detail) } := rfl

/-- An entry that did not become active is answered (R88). -/
theorem answer_eq_posting (l : Lane) (e : RequestEntry) (c : Code) (profile detail : Byte) (s : State) :
    answer l e c profile detail s =
      s.setLane l { s.lane l with seq := posting (s.lane l).seq (completion s l c e.tag profile 0 detail) } := rfl

section
variable {l : Lane} {s : State} {r : ActiveRequest} {due : Moment}

/-! ## The defer timer (R97) -/

theorem deferExpires_of_early (hdue : (s.lane l).seq.deferDue = some due) (hlt : s.clock < due) :
    deferExpires l s = s := by
  unfold deferExpires
  simp [hdue, expired, Nat.not_le.mpr hlt]

/-- A deferral that ends gives up a POLITE request and starts any other (R97). -/
theorem deferExpires_of_due (hdue : (s.lane l).seq.deferDue = some due) (hle : due ≤ s.clock)
    (hactive : (s.lane l).seq.active = some r) (hstate : (s.lane l).seq.state = .defer) :
    deferExpires l s = if isPolite r.entry then finish l r .lineBusy 0 s else startTransmission l true s := by
  unfold deferExpires
  simp only [hdue, expired_some.mpr hle, hactive, hstate, if_true]

/-! ## The hold limit (R105) -/

theorem holdLimitExpires_of_early (hdue : (s.lane l).seq.limitDue = some due) (hlt : s.clock < due) :
    holdLimitExpires l s = s := by
  unfold holdLimitExpires
  simp [hdue, expired, Nat.not_le.mpr hlt]

theorem holdLimitExpires_of_ending (hstate : (s.lane l).seq.state = .ending) : holdLimitExpires l s = s := by
  unfold holdLimitExpires
  simp only [hstate, ite_self]

theorem holdLimitExpires_of_due (hdue : (s.lane l).seq.limitDue = some due) (hle : due ≤ s.clock)
    (hactive : (s.lane l).seq.active = some r) :
    ((s.lane l).seq.state = .sending → holdLimitExpires l s = enterEnding l r .holdLimit s) ∧
      ((s.lane l).seq.state = .holding → holdLimitExpires l s = endHold l r .holdLimit s) := by
  unfold holdLimitExpires
  constructor <;> intro hstate <;> simp only [hdue, expired_some.mpr hle, hactive, hstate, if_true]

/-! ## The reply window (R112, R115) -/

theorem replyExpires_of_early (hdue : (s.lane l).seq.replyDue = some due) (hlt : s.clock < due) :
    replyExpires l s = s := by
  unfold replyExpires
  simp [hdue, expired, Nat.not_le.mpr hlt]

/-- A window that ends without a reply is followed by the next attempt or ends the exchange (R112, R115). -/
theorem replyExpires_of_due (hdue : (s.lane l).seq.replyDue = some due) (hle : due ≤ s.clock)
    (hactive : (s.lane l).seq.active = some r) (hstate : (s.lane l).seq.state = .listen) :
    replyExpires l s =
      if r.started.toNat < r.entry.attempts.toNat then
        enterGap l (s.nextStart r (due - r.entry.replyWindow.toNat * 1000))
          (s.modSeq l fun q => { q with replyDue := none })
      else finish l r .noReply 0 s := by
  unfold replyExpires
  simp only [hdue, expired_some.mpr hle, hactive, hstate, if_true, Option.getD_some]

/-! ## The reply test (R114) -/

/-- The test compares the profile, and bit by bit what the mask selects of the payload. -/
theorem passesReply_iff {e : RequestEntry} (he : e.replyProfile.toNat ≤ 15) (f : GoodFrame) :
    passesReply e f = true ↔ f.profile.val = e.replyProfile.toNat ∧
      ∀ k : Nat, k < 64 → (f.payload.getLsbD k && e.replyMask.getLsbD k) = e.replyValue.getLsbD k := by
  have hslot : toSlot e.replyProfile = f.profile ↔ f.profile.val = e.replyProfile.toNat := by
    rw [Fin.ext_iff, eq_comm]
    simp only [toSlot]
    rw [Nat.mod_eq_of_lt (by omega)]
  unfold passesReply
  rw [Bool.and_eq_true, beq_iff_eq, hslot, beq_iff_eq, masked_eq_iff]

theorem takeGoodFrame_of_not_listen (hstate : (s.lane l).seq.state ≠ .listen) (f : GoodFrame) :
    takeGoodFrame l f s = takeFrame l f s := by
  unfold takeGoodFrame
  dsimp only
  split
  · contradiction
  · rfl

/-- In LISTEN a frame that passes the test completes the exchange, and any other goes on to the press tracker (R51). -/
theorem takeGoodFrame_of_listen (hactive : (s.lane l).seq.active = some r) (hstate : (s.lane l).seq.state = .listen)
    (f : GoodFrame) :
    takeGoodFrame l f s =
      if passesReply r.entry f then
        s.setLane l
          { s.lane l with
            seq := posting (s.lane l).seq
              { completion s l .ok r.entry.tag r.entry.profile r.started 0 with
                bitCount := f.bitCount, payload := f.payload, timestamp := BitVec.ofNat 32 f.start } }
      else takeFrame l f s := by
  unfold takeGoodFrame
  simp only [hactive, hstate]
  rfl

end

/-- Settles O48, by the two timers before and at their moment (`deferExpires_of_due`, `holdLimitExpires_of_due`). -/
theorem deferAndHoldLimitExpire : Obligations.DeferAndHoldLimitExpire := by
  intro l s r hactive x done
  have hdefer : exec (.deferTimerExpiry l) s = .next (chooseEvent (deferExpires l s)) := rfl
  have hlimit : exec (.holdLimitExpiry l) s = .next (chooseEvent (holdLimitExpires l s)) := rfl
  rw [hdefer, hlimit]
  refine ⟨fun due hdue => ⟨fun hlt => ?_, fun hle hstate => ⟨fun hpolite => ?_, fun hforced => ?_⟩⟩,
    fun due hdue => ⟨fun hstill => ?_, fun hle hstate => ?_, fun hle hstate => ?_⟩⟩
  · rw [deferExpires_of_early hdue hlt]
  · have hpolite : isPolite r.entry = true := hpolite
    rw [deferExpires_of_due hdue hle hactive hstate, if_pos hpolite]
    rfl
  · have hforced : isPolite r.entry = false := hforced
    rw [deferExpires_of_due hdue hle hactive hstate, if_neg (by simp [hforced]), startTransmission_eq_onAir hactive]
  · rcases hstill with hlt | hending
    · rw [holdLimitExpires_of_early hdue hlt]
    · rw [holdLimitExpires_of_ending hending]
  · rw [(holdLimitExpires_of_due hdue hle hactive).1 hstate]
    rfl
  · rw [(holdLimitExpires_of_due hdue hle hactive).2 hstate, endHold_eq]

/-- Settles O49: the reply test (`passesReply_iff`), and the end of the window (`replyExpires_of_due`). -/
theorem exchangeMeetsReply : Obligations.ExchangeMeetsReply := by
  refine ⟨fun l s f hstate => takeGoodFrame_of_not_listen hstate f, fun l s r hactive hstate hkind hprofile => ?_⟩
  intro x p
  have hexec : exec (.replyWindowExpiry l) s = .next (chooseEvent (replyExpires l s)) := rfl
  refine ⟨fun f => ?_, fun due hdue => ⟨fun hlt => ?_, fun hle hmore => ?_, fun hle hlast => ?_⟩⟩
  · rw [takeGoodFrame_of_listen hactive hstate]
    exact ⟨fun hpasses => if_pos ((passesReply_iff hprofile f).mpr hpasses),
      fun hfails => if_neg (mt (passesReply_iff hprofile f).mp hfails)⟩
  · rw [hexec, replyExpires_of_early hdue hlt]
  · rw [hexec, replyExpires_of_due hdue hle hactive hstate, if_pos hmore]
    unfold enterGap State.nextStart
    simp [hkind, State.modSeq_def, x, p]
  · rw [hexec, replyExpires_of_due hdue hle hactive hstate, if_neg (Nat.not_lt.mpr hlast)]
    rfl

end Sys2Proof.Machine
end

section
/-! Request entries and pair lists (05): the taking of an entry (R85, R86, R88), its activation (R89, R90), and the end of a
pair list's read (R94, R95, R100). -/

namespace Sys2Proof.Machine

open Sys2Proof.Claims

/-! ## Kinds and validation (R88) -/

theorem requestKind_eq_none {code : Byte} (h : code.toNat = 0 ∨ 5 ≤ code.toNat) : requestKind code = none := by
  unfold requestKind
  split
  case h_5 => rfl
  all_goals omega

theorem requestKind_eq_some {code : Byte} {k : RequestKind} (hone : 1 ≤ code.toNat)
    (h : [RequestKind.send, .raw, .hold, .exchange][code.toNat - 1]? = some k) : requestKind code = some k := by
  obtain ⟨hlt, hget⟩ := List.getElem?_eq_some_iff.mp h
  simp only [List.length_cons, List.length_nil] at hlt
  unfold requestKind
  have hcode : code.toNat = 1 ∨ code.toNat = 2 ∨ code.toNat = 3 ∨ code.toNat = 4 := by omega
  rcases hcode with hc | hc | hc | hc <;> simp only [hc] at h ⊢ <;> exact h

theorem modeAdmits_iff (mode : LaneMode) (k : RequestKind) :
    modeAdmits mode k = true ↔ mode = .shared ∨ mode = .split ∨ mode = .txOnly ∧ k ≠ .exchange := by
  cases mode <;> cases k <;> simp [modeAdmits]

theorem validate_unknown {mode : LaneMode} {e : RequestEntry} (h : requestKind e.kind = none) :
    validate mode e = .error (.unknownKind, 0, 0) := by
  unfold validate
  simp only [h]

theorem validate_fieldRange {mode : LaneMode} {e : RequestEntry} {k : RequestKind} {n : Nat}
    (hk : requestKind e.kind = some k) (hn : firstBad (requestChecks k e) = some n) :
    validate mode e = .error (.fieldRange, BitVec.ofNat 8 n, 0) := by
  unfold validate
  simp only [hk, hn]

theorem validate_in_range {mode : LaneMode} {e : RequestEntry} {k : RequestKind} (hk : requestKind e.kind = some k)
    (hn : firstBad (requestChecks k e) = none) :
    validate mode e = if modeAdmits mode k then .ok k else .error (.modeConflict, 0, e.profile) := by
  unfold validate
  simp only [hk, hn]

section
variable {l : Lane} {e : RequestEntry} {s : State} {r : ActiveRequest}

/-! ## The taking of an entry (R85, R88, R100) -/

/-- The lane with the head of its request queue advanced (R85). -/
def LaneState.headAdvanced (x : LaneState) : LaneState :=
  { x with queue := { x.queue with head := (x.queue.head + 1) % x.queue.size } }

/-- A completion made after the head has advanced reports as one made before it. -/
theorem completion_advanceHead (status : Code) (tag : Half) (profile : Byte) (count : Half) (detail : Byte) :
    completion (advanceHead l s) l status tag profile count detail = completion s l status tag profile count detail := by
  simp [completion, advanceHead]

theorem takeEntry_of_flush {a : AbortWork} (h : (s.lane l).seq.abort = some a) :
    takeEntry l e s =
      s.setLane l
        { (s.lane l).headAdvanced with
          seq :=
            { posting (s.lane l).seq (completion s l .aborted e.tag e.profile 0 0) with
              abort := some { remaining := a.remaining - 1, aborted := a.aborted + 1 } } } := by
  have hkept : ((advanceHead l s).lane l).seq.abort = some a := by simpa [advanceHead] using h
  unfold takeEntry
  simp only [hkept]
  simp [answer_eq_posting, countFlushed, advanceHead, State.modSeq_def, State.modLane_def, posting, completion, h,
    LaneState.headAdvanced]

theorem takeEntry_of_refused (habort : (s.lane l).seq.abort = none) {status : Code} {detail profile : Byte}
    (h : validate (s.lane l).settings.mode e = .error (status, detail, profile)) :
    takeEntry l e s =
      s.setLane l
        { (s.lane l).headAdvanced with
          seq := posting (s.lane l).seq (completion s l status e.tag profile 0 detail) } := by
  have hkept : ((advanceHead l s).lane l).seq.abort = none := by simpa [advanceHead] using habort
  have hmode : ((advanceHead l s).lane l).settings = (s.lane l).settings := by simp [advanceHead]
  unfold takeEntry
  simp only [hkept, hmode, h]
  rw [answer_eq_posting, completion_advanceHead]
  simp [advanceHead, State.modLane_def, LaneState.headAdvanced]

theorem takeEntry_of_passed (habort : (s.lane l).seq.abort = none) {k : RequestKind}
    (h : validate (s.lane l).settings.mode e = .ok k) :
    takeEntry l e s =
      s.setLane l { (s.lane l).headAdvanced with seq := { (s.lane l).seq with taken := some e } } := by
  have hkept : ((advanceHead l s).lane l).seq.abort = none := by simpa [advanceHead] using habort
  have hmode : ((advanceHead l s).lane l).settings = (s.lane l).settings := by simp [advanceHead]
  unfold takeEntry
  simp only [hkept, hmode, h]
  simp [advanceHead, State.modLane_def, State.modSeq_def, LaneState.headAdvanced]

theorem exec_requestEntryReadEnd (h : Outstanding s (.sequencer l) .requestEntry) (e : RequestEntry) :
    exec (.requestEntryReadEnd l e) s =
      .next (chooseEvent (takeEntry l e (s.setBus (.sequencer l) .idle))) := by
  obtain ⟨hrun, t, hplace, hpurpose⟩ := h
  have hends : entryReadEnds l e s = takeEntry l e (s.setBus (.sequencer l) .idle) :=
    endTransaction_running hrun hplace (beq_iff_eq.mpr hpurpose)
  rw [← hends]
  rfl

/-- A failed entry read, the request queue being there (R86). -/
theorem exec_requestReadError (h : Outstanding s (.sequencer l) .requestEntry)
    (hqueue : (s.lane l).queue.state ≠ .absent) :
    exec (.requestReadError l) s =
      .next (chooseEvent
        ((s.setBus (.sequencer l) .idle).setLane l
          { s.lane l with
            queue := { (s.lane l).queue with state := .faulted },
            seq :=
              { posting (s.lane l).seq (completion s l .queueFault 0 0 0 0) with
                abort := (s.lane l).seq.abort.map fun a => { a with remaining := 0 } } })) := by
  obtain ⟨hrun, t, hplace, hpurpose⟩ := h
  have hfaulted : (s.lane l).queue.afterReadError = { (s.lane l).queue with state := .faulted } := by
    unfold RequestQueue.afterReadError
    split
    · contradiction
    all_goals rfl
  have hends : entryReadFails l s = _ := endTransaction_running hrun hplace (beq_iff_eq.mpr hpurpose)
  rw [show exec (.requestReadError l) s = .next (chooseEvent (entryReadFails l s)) from rfl, hends]
  simp [complete_eq_posting, completionOf_eq_completion, State.modLane_def, hfaulted, completion, posting]

/-! ## Activation (R89, R90) -/

/-- The profile bytes that a request names. -/
def namedProfiles (k : RequestKind) (e : RequestEntry) : List Byte :=
  match k with
  | .send | .hold => [e.profile]
  | .exchange => [e.profile, e.replyProfile]
  | .raw => if e.profile.toNat = 255 then [] else [e.profile]

theorem namedSlots_eq_map (k : RequestKind) (e : RequestEntry) : namedSlots k e = (namedProfiles k e).map toSlot := by
  cases k with
  | raw =>
    simp only [namedSlots, namedProfiles]
    split <;> rfl
  | send | hold | exchange => rfl

theorem isValid_iff {x : Slot} : x.isValid = true ↔ ∃ p, x = .valid p := by
  cases x <;> simp [Slot.isValid]

/-- A profile byte in range names its slot. -/
theorem slot_valid_iff {b : Byte} (hb : b.toNat ≤ 15) :
    (s.slot (toSlot b)).isValid = true ↔ ∃ i : SlotId, i.val = b.toNat ∧ ∃ p, s.slot i = .valid p := by
  rw [isValid_iff]
  constructor
  · exact fun h => ⟨toSlot b, Nat.mod_eq_of_lt (by omega), h⟩
  · rintro ⟨i, hi, h⟩
    rwa [toSlot_eq hi.symm]

/-- Every slot the request names is VALID. -/
theorem namedSlots_valid_iff {k : RequestKind} (hrange : ∀ b ∈ namedProfiles k e, b.toNat ≤ 15) :
    ((namedSlots k e).all fun i => (s.slot i).isValid) = true ↔
      ∀ b ∈ namedProfiles k e, ∃ i : SlotId, i.val = b.toNat ∧ ∃ p, s.slot i = .valid p := by
  rw [namedSlots_eq_map, List.all_map, List.all_eq_true]
  exact forall₂_congr fun b hb => slot_valid_iff (hrange b hb)

/-- With a slot that is not VALID the request does not become active (R89 (1)). -/
theorem activate_of_invalid {k : RequestKind} (h : ((namedSlots k e).all fun i => (s.slot i).isValid) ≠ true) :
    activate l e k s = answer l e .profileInvalid e.profile 0 s := if_neg h

/-- The checks against the profile refuse an active request (R89 (2)). -/
theorem activate_of_fault {k : RequestKind} {status : Code} {detail : Byte}
    (h : ((namedSlots k e).all fun i => (s.slot i).isValid) = true)
    (hfault : activationFault s k e = some (status, detail)) :
    activate l e k s =
      s.setLane l { s.lane l with
        seq := { posting (s.lane l).seq (completion s l status e.tag e.profile 0 detail) with
                 active := some (activeOf s k e) } } := by
  unfold activate
  rw [if_pos h]
  simp only [hfault, finish_eq_posting]
  simp [State.modSeq_def, completion, posting, activeOf]

/-- A RAW request that passes asks for its pair list (R94). -/
theorem activate_raw (h : ((namedSlots .raw e).all fun i => (s.slot i).isValid) = true) :
    activate l e .raw s =
      asked (.sequencer l) (listRead e)
        (s.setLane l { s.lane l with
          seq := { (s.lane l).seq with state := .listFetch, taken := none, active := some (activeOf s .raw e) } }) := by
  unfold activate
  rw [if_pos h, asked_eq_askBus]
  simp [activationFault, State.modSeq_def]

/-- Any other request that passes waits for the line-free time (R90, R93). -/
theorem activate_of_passed {k : RequestKind} (hk : k ≠ .raw)
    (h : ((namedSlots k e).all fun i => (s.slot i).isValid) = true) (hfault : activationFault s k e = none) :
    activate l e k s =
      s.setLane l { s.lane l with
        seq := { (s.lane l).seq with state := .gap, taken := none, active := some (activeOf s k e),
                                     spacingDue := some ((s.lane l).seq.lineFree.getD s.clock) } } := by
  unfold activate
  rw [if_pos h]
  simp only [hfault, if_neg hk]
  simp [firstGap, enterGap, State.modSeq_def]

theorem exec_activation {k : RequestKind} (htaken : (s.lane l).seq.taken = some e) (hk : requestKind e.kind = some k) :
    exec (.activation l) s = .next (chooseEvent (activate l e k s)) := by
  have hactivates : activationTaken l s = activate l e k s := by
    unfold activationTaken
    simp only [htaken, hk]
  rw [← hactivates]
  rfl

/-- The checks once the request is active, in their order (R89 (2)). -/
theorem activationFault_eq {k : RequestKind} (hk : k ≠ .raw) :
    activationFault s k e =
      if ¬ ((s.requestProfile e).bitsMin ≤ e.bitCount.toNat ∧ e.bitCount.toNat ≤ (s.requestProfile e).bitsMax) then
        some (.fieldRange, 5)
      else if k = .send ∧ e.repeatForm.toNat = 1 ∧ (s.requestProfile e).repeatMark = 0 then some (.fieldRange, 7)
      else if k = .exchange ∧ (s.profile (toSlot e.replyProfile)).leaderMark = 0 then some (.profileInvalid, 0)
      else none := by
  have hcounted : within (s.requestProfile e).bitsMin (s.requestProfile e).bitsMax e.bitCount.toNat = true ↔
      (s.requestProfile e).bitsMin ≤ e.bitCount.toNat ∧ e.bitCount.toNat ≤ (s.requestProfile e).bitsMax := within_iff
  cases k with
  | raw => contradiction
  | send | hold | exchange =>
    simp [activationFault, ← hcounted, wantsCode, Profile.hasRepeat]

/-! ## The pair list (R94, R95, R100) -/

/-- A list passes when every mark is at least 1 µs and only the last space is 0 (R95). -/
theorem pairListOk_iff (pairs : List RawPair) :
    pairListOk pairs = true ↔
      (∀ p ∈ pairs, 1 ≤ p.mark.toNat) ∧ ∀ p ∈ pairs.dropLast, 1 ≤ p.space.toNat := by
  induction pairs with
  | nil => simp [pairListOk]
  | cons p rest ih =>
    unfold pairListOk
    rw [Bool.and_eq_true, Bool.and_eq_true, ih]
    cases rest with
    | nil => simp
    | cons q rest =>
      simp only [List.isEmpty_cons, Bool.false_or, decide_eq_true_eq, List.dropLast_cons_cons, List.forall_mem_cons]
      tauto

/-- The wanted read of a list ends with data (R94). -/
theorem exec_pairListReadEnd {pairs : List RawPair} (h : Outstanding s (.sequencer l) (.pairList false))
    (hstate : (s.lane l).seq.state = .listFetch) (hactive : (s.lane l).seq.active = some r)
    (hlength : pairs.length = r.entry.pairCount.toNat) :
    exec (.pairListReadEnd l (some pairs)) s =
      .next (chooseEvent (listArrives l r pairs (s.setBus (.sequencer l) .idle))) := by
  obtain ⟨hrun, t, hplace, hpurpose⟩ := h
  have hends : listReadEnds l (some pairs) s = listArrives l r pairs (s.setBus (.sequencer l) .idle) := by
    unfold listReadEnds
    simp only [hstate, hactive, if_pos hlength]
    exact endTransaction_running hrun hplace (beq_iff_eq.mpr hpurpose)
  rw [← hends]
  rfl

/-- The wanted read of a list ends with a bus error (R94). -/
theorem exec_pairListReadError (h : Outstanding s (.sequencer l) (.pairList false))
    (hstate : (s.lane l).seq.state = .listFetch) (hactive : (s.lane l).seq.active = some r) :
    exec (.pairListReadEnd l none) s =
      .next (chooseEvent (finish l r .fetchError 0 (s.setBus (.sequencer l) .idle))) := by
  obtain ⟨hrun, t, hplace, hpurpose⟩ := h
  have hends : listReadEnds l none s = finish l r .fetchError 0 (s.setBus (.sequencer l) .idle) := by
    unfold listReadEnds
    simp only [hstate, hactive]
    exact endTransaction_running hrun hplace (beq_iff_eq.mpr hpurpose)
  rw [← hends]
  rfl

/-- A discarded read ends while the sequencer waits to ask for an entry (R100, log entry 13). -/
theorem listReadEnds_of_fetch (h : Outstanding s (.sequencer l) (.pairList true))
    (hstate : (s.lane l).seq.state = .fetch) (result : Option (List RawPair)) :
    listReadEnds l result s = s.setBus (.sequencer l) (.pending (entryRead (s.lane l).queue)) := by
  obtain ⟨hrun, t, hplace, hpurpose⟩ := h
  have hwanted : t.purpose.isPairList = true := by rw [hpurpose]; rfl
  unfold listReadEnds
  simp only [hstate]
  rw [endTransaction_running hrun hplace hwanted, askBus_of_idle (State.setBus_busSlot_self _ _ _), State.setBus_setBus]
  rfl

/-- A discarded read ends, and nothing waits for its place (R100). -/
theorem listReadEnds_of_unwanted (h : Outstanding s (.sequencer l) (.pairList true))
    (hfetch : (s.lane l).seq.state ≠ .fetch) (hlist : (s.lane l).seq.state ≠ .listFetch)
    (result : Option (List RawPair)) : listReadEnds l result s = s.setBus (.sequencer l) .idle := by
  obtain ⟨hrun, t, hplace, hpurpose⟩ := h
  have hwanted : t.purpose.isPairList = true := by rw [hpurpose]; rfl
  unfold listReadEnds
  dsimp only
  split
  · contradiction
  · contradiction
  · contradiction
  · exact endTransaction_running hrun hplace hwanted

end

/-- Settles O42: the taking by the abort in progress and by the validation (`takeEntry_of_flush`, `takeEntry_of_refused`,
`takeEntry_of_passed`). -/
theorem requestEntryReadEnds : Obligations.RequestEntryReadEnds := by
  intro l e s hread x free ends refusal
  have hends : ∀ q, takeEntry l e free = free.setLane l { x.headAdvanced with seq := q } → ends q := by
    intro q hq
    show exec _ s = _
    rw [exec_requestEntryReadEnd hread e, hq]
    rfl
  refine ⟨fun a ha => hends _ (takeEntry_of_flush (s := free) ha), fun habort => ⟨fun hcode => ?_, fun k hone hcode => ?_⟩,
    exec_requestReadError hread⟩
  · exact hends _ (takeEntry_of_refused (s := free) habort (validate_unknown (requestKind_eq_none hcode)))
  · have hk := requestKind_eq_some hone hcode
    refine ⟨fun n hn => ?_, fun hgood hrefused => ?_, fun hgood hadmitted => ?_⟩
    · exact hends _ (takeEntry_of_refused (s := free) habort (validate_fieldRange hk hn))
    · have hvalid := validate_in_range (mode := x.settings.mode) hk hgood
      rw [if_neg (mt (modeAdmits_iff _ _).mp hrefused)] at hvalid
      exact hends _ (takeEntry_of_refused (s := free) habort hvalid)
    · have hvalid := validate_in_range (mode := x.settings.mode) hk hgood
      rw [if_pos ((modeAdmits_iff _ _).mpr hadmitted)] at hvalid
      exact hends _ (takeEntry_of_passed (s := free) habort hvalid)

/-- Settles O43: the claim of the slots, then the checks of the active request in their order (`activationFault_eq`). -/
theorem activationClaimsSlots : Obligations.ActivationClaimsSlots := by
  intro l e k s htaken hone hcode x named valid p r ends fails counted codeless leaderless hrange
  have hexec := exec_activation (s := s) (l := l) htaken (requestKind_eq_some hone hcode)
  have hvalid := namedSlots_valid_iff (s := s) (k := k) (e := e) hrange
  have hends : ∀ q, activate l e k s = s.setLane l { x with seq := q } → ends q := by
    intro q hq
    show exec _ s = _
    rw [hexec, hq]
  refine ⟨fun ⟨b, hb, hinvalid⟩ => ?_, fun hall => ?_⟩
  · have hnot : ((namedSlots k e).all fun i => (s.slot i).isValid) ≠ true := fun h => hinvalid (hvalid.mp h b hb)
    exact hends _ (activate_of_invalid hnot)
  · have hslots := hvalid.mpr hall
    have hfails : ∀ status detail, activationFault s k e = some (status, detail) → fails status detail :=
      fun status detail hfault => hends _ (activate_of_fault hslots hfault)
    refine ⟨fun hk hcount => ?_, fun hcount hcodeless => ?_, fun hcount hleaderless => ?_,
      fun hk hcount hcoded hled => ?_, fun hk => ?_⟩
    · exact hfails _ _ ((activationFault_eq hk).trans (if_pos hcount))
    · have hk : k ≠ .raw := by rw [hcodeless.1]; nofun
      exact hfails _ _ ((activationFault_eq hk).trans ((if_neg (not_not.mpr hcount)).trans (if_pos hcodeless)))
    · have hk : k ≠ .raw := by rw [hleaderless.1]; nofun
      have hcoded : ¬ codeless := fun h => nomatch h.1.symm.trans hleaderless.1
      exact hfails _ _ ((activationFault_eq hk).trans
        ((if_neg (not_not.mpr hcount)).trans ((if_neg hcoded).trans (if_pos hleaderless))))
    · refine hends _ (activate_of_passed hk hslots ((activationFault_eq hk).trans ?_))
      rw [if_neg (not_not.mpr hcount), if_neg hcoded, if_neg hled]
    · subst hk
      rw [hexec, activate_raw hslots]
      rfl

/-- Settles O44: the wanted read by what it brings (`pairListOk_iff`), and the discarded one by the sequencer's state. -/
theorem pairListReadEnds : Obligations.PairListReadEnds := by
  intro l s x free
  refine ⟨fun r hread hstate hactive => ⟨fun pairs hlength => ⟨fun hpass => ?_, fun hfail => ?_⟩, ?_⟩,
    fun result hread => ⟨fun hstate => ?_, fun hfetch hlist => ?_⟩⟩
  · rw [exec_pairListReadEnd hread hstate hactive hlength]
    unfold listArrives
    rw [if_pos ((pairListOk_iff pairs).mpr hpass)]
    simp [firstGap, enterGap, State.modSeq_def, x, free]
  · rw [exec_pairListReadEnd hread hstate hactive hlength]
    unfold listArrives
    rw [if_neg (mt (pairListOk_iff pairs).mp hfail)]
    rfl
  · rw [exec_pairListReadError hread hstate hactive]
    rfl
  · rw [show exec (.pairListReadEnd l result) s = .next (chooseEvent (listReadEnds l result s)) from rfl,
      listReadEnds_of_fetch hread hstate]
    rfl
  · rw [show exec (.pairListReadEnd l result) s = .next (chooseEvent (listReadEnds l result s)) from rfl,
      listReadEnds_of_unwanted hread hfetch hlist]

end Sys2Proof.Machine
end

section
/-! The end of a transmission (R92, R93, R95, R104, R109, R113): what leaves the line, and what follows by the kind of
request. -/

namespace Sys2Proof.Machine

open Sys2Proof.Claims

/-! ## What a lane's happening leaves to its requests -/

/-- A request's profile is out of reach of a lane's happening. -/
theorem OnlyLane.requestProfile {l : Lane} {s t : State} (h : OnlyLane l s t) (e : RequestEntry) :
    t.requestProfile e = s.requestProfile e := by
  unfold State.requestProfile
  rw [h.profile]

/-- A completion reports the same after a happening that leaves the lane's request queue alone. -/
theorem completion_of_onlyLane {l : Lane} {s t : State} (h : OnlyLane l s t) (hlimits : t.limits l = s.limits l)
    (status : Code) (tag : Half) (profile : Byte) (count : Half) (detail : Byte) :
    completion t l status tag profile count detail = completion s l status tag profile count detail := by
  have hqueue : (t.lane l).queue = (s.lane l).queue := congrArg (fun x => x.2.1) hlimits
  unfold completion
  rw [hqueue, h.clock]

/-! ## Leaving the line -/

theorem gapAfter_eq (s : State) (r : ActiveRequest) :
    s.gapAfter r =
      if r.kind = .raw then max (lastSpace r.pairs) (s.requestProfile r.entry).minGap
      else (s.requestProfile r.entry).minGap := by
  unfold State.gapAfter
  cases r.kind <;> rfl

theorem nextStart_eq (s : State) (r : ActiveRequest) (ended : Moment) :
    s.nextStart r ended =
      if r.kind = .raw then ended + s.gapAfter r
      else max (ended + (s.requestProfile r.entry).minGap)
        (if (s.requestProfile r.entry).framePeriod = 0 then ended
          else r.lastStart + (s.requestProfile r.entry).framePeriod) := by
  unfold State.nextStart
  cases r.kind <;> rfl

/-- The lane whose transmission has left the line (R93). -/
def LaneState.offLine (x : LaneState) (lineFree : Moment) : LaneState :=
  { x with tx := none, seq := { x.seq with lineFree := some lineFree } }

/-- The line is left; on a SHARED lane the echo guard is counted, or with echo_guard 0 the blind condition withdrawn (R32,
R93). -/
theorem leaveLine_eq (l : Lane) (r : ActiveRequest) (s : State) :
    leaveLine l r s =
      let left := (s.lane l).offLine (s.clock + s.gapAfter r)
      if (s.lane l).settings.mode = .shared then
        if (s.lane l).settings.echoGuard = 0 then withdrawBlind l (s.setLane l left)
        else s.setLane l { left with echoDue := some (s.clock + (s.lane l).settings.echoGuard) }
      else s.setLane l left := by
  unfold leaveLine startEchoGuard
  simp only [State.modLane_def, State.setLane_lane_self, State.setLane_setLane, State.setLane_clock]
  rfl

section
variable {l : Lane} {s : State} {r : ActiveRequest} {t : Transmission}

theorem transmissionEnds_of_early (htx : (s.lane l).tx = some t) (hactive : (s.lane l).seq.active = some r)
    (hlt : s.clock < t.endsAt) : transmissionEnds l s = s := by
  unfold transmissionEnds
  simp only [htx, hactive, if_neg (Nat.not_le.mpr hlt)]

theorem transmissionEnds_of_due (htx : (s.lane l).tx = some t) (hactive : (s.lane l).seq.active = some r)
    (hle : t.endsAt ≤ s.clock) : transmissionEnds l s = afterTransmission l r (leaveLine l r s) := by
  unfold transmissionEnds
  simp only [htx, hactive, if_pos hle]

/-- A series waits for its next start or completes OK (R92, R95). -/
theorem afterTransmission_series (hkind : r.kind = .send ∨ r.kind = .raw) :
    afterTransmission l r s =
      if r.started.toNat < seriesLength r.entry then enterGap l (s.nextStart r s.clock) s else finish l r .ok 0 s := by
  unfold afterTransmission
  rcases hkind with hk | hk <;> simp only [hk]

/-- A hold completes with its end cause (R104, R109). -/
theorem afterTransmission_ended {cause : Code} (hkind : r.kind = .hold) (hcause : r.endCause = some cause) :
    afterTransmission l r s = finish l r cause 0 s := by
  unfold afterTransmission
  simp only [hkind, hcause]

/-- A hold that goes on waits for its next start (R104). -/
theorem afterTransmission_holding (hkind : r.kind = .hold) (hcause : r.endCause = none) :
    afterTransmission l r s =
      s.setLane l { s.lane l with
        seq := { (s.lane l).seq with
          state := .holding,
          spacingDue := some (max (r.lastStart + r.holdPeriod) (s.clock + (s.requestProfile r.entry).minGap)) } } := by
  unfold afterTransmission
  simp only [hkind, hcause]
  rfl

/-- An exchange listens for its reply (R113). -/
theorem afterTransmission_exchange (hkind : r.kind = .exchange) :
    afterTransmission l r s =
      s.setLane l { s.lane l with
        seq := { (s.lane l).seq with
          state := .listen, replyDue := some (s.clock + r.entry.replyWindow.toNat * 1000) } } := by
  unfold afterTransmission
  simp only [hkind]
  rfl

end

/-- Settles O47: the line is left (`leaveLine_eq`), and the request goes on by its kind. -/
theorem transmissionEndsOnLine : Obligations.TransmissionEndsOnLine := by
  intro l s r t htx hactive _ x p gap next left off ends done
  have hexec : exec (.transmissionEnd l) s = .next (chooseEvent (transmissionEnds l s)) := rfl
  have hgap : s.gapAfter r = gap := gapAfter_eq s r
  have hoff : leaveLine l r s = off := by
    rw [leaveLine_eq, hgap]
    rfl
  clear_value off
  have honly : OnlyLane l s off := hoff ▸ onlyLane_leaveLine l r s
  have hlimits : off.limits l = s.limits l := hoff ▸ leaveLine_limits l r s
  have hprofile : off.requestProfile r.entry = p := honly.requestProfile r.entry
  have hnext : off.nextStart r off.clock = next := by
    have hsame : off.gapAfter r = gap := by rw [gapAfter_eq, hprofile]
    rw [nextStart_eq, hsame, hprofile, honly.clock]
  refine ⟨fun hlt => ?_, fun hle => ?_⟩
  · rw [hexec, transmissionEnds_of_early htx hactive hlt]
  have hends : ∀ f, afterTransmission l r off = off.setLane l { off.lane l with seq := f (off.lane l).seq } → ends f := by
    intro f hf
    show exec _ s = _
    rw [hexec, transmissionEnds_of_due htx hactive hle, hoff, hf]
  clear_value ends
  have hdone : ∀ status, afterTransmission l r off = finish l r status 0 off → done status := by
    intro status hfinish
    refine hends _ (hfinish.trans ?_)
    rw [finish_eq_posting, completion_of_onlyLane honly hlimits]
  refine ⟨fun hkind => ⟨fun hmore => ?_, fun hlast => ?_⟩, fun hkind => ⟨fun cause hcause => ?_, fun hcause => ?_⟩,
    fun hkind => ?_⟩
  · refine hends _ ((afterTransmission_series hkind).trans ((if_pos ?_).trans ?_))
    · unfold seriesLength
      omega
    · rw [hnext]
      rfl
  · refine hdone _ ((afterTransmission_series hkind).trans (if_neg ?_))
    unfold seriesLength
    omega
  · exact hdone _ (afterTransmission_ended hkind hcause)
  · refine hends _ ((afterTransmission_holding hkind hcause).trans ?_)
    rw [hprofile, honly.clock]
  · refine hends _ ((afterTransmission_exchange hkind).trans ?_)
    rw [honly.clock]

end Sys2Proof.Machine
end

section
/-! The records the part writes (R178, 10.3), as numbers: fields low byte first, the packed bytes of an event, and the
events of the three kinds of writer. -/

namespace Sys2Proof.Machine

open Sys2Proof.Claims

/-! ## Numbers, low byte first -/

/-- The two bytes of a number, low byte first. -/
def twoBytes (x : Nat) : List Nat := [x % 256, x / 256 % 256]

/-- The four bytes of a number, low byte first. -/
def fourBytes (x : Nat) : List Nat := [x % 256, x / 256 % 256, x / 65536 % 256, x / 16777216 % 256]

/-- The sixteen bytes of a number, low byte first. -/
def sixteenBytes (x : Nat) : List Nat :=
  fourBytes (x % 2 ^ 32) ++ fourBytes (x / 2 ^ 32 % 2 ^ 32) ++ fourBytes (x / 2 ^ 64 % 2 ^ 32) ++ fourBytes (x / 2 ^ 96)

theorem halfBytes_numbers (x : Half) : (halfBytes x).map BitVec.toNat = twoBytes x.toNat := by
  simp [halfBytes, twoBytes, Nat.shiftRight_eq_div_pow]

theorem wordBytes_numbers (x : Word) : (wordBytes x).map BitVec.toNat = fourBytes x.toNat := by
  rw [wordBytes, List.map_append, halfBytes_numbers, halfBytes_numbers]
  simp only [twoBytes, fourBytes, BitVec.toNat_setWidth, BitVec.toNat_ushiftRight, Nat.shiftRight_eq_div_pow,
    List.cons_append, List.nil_append, List.cons.injEq, and_true]
  omega

theorem maskBytes_numbers (x : Mask) :
    (maskBytes x).map BitVec.toNat = fourBytes (x.toNat % 2 ^ 32) ++ fourBytes (x.toNat / 2 ^ 32) := by
  have hhigh : x.toNat / 2 ^ 32 % 2 ^ 32 = x.toNat / 2 ^ 32 := Nat.mod_eq_of_lt (by have := x.isLt; omega)
  rw [maskBytes, List.map_append, wordBytes_numbers, wordBytes_numbers, BitVec.toNat_setWidth, BitVec.toNat_setWidth,
    BitVec.toNat_ushiftRight, Nat.shiftRight_eq_div_pow, hhigh]

theorem payloadBytes_numbers (x : Payload) : (payloadBytes x).map BitVec.toNat = sixteenBytes x.toNat := by
  have hhigh : x.toNat / 2 ^ 64 % 2 ^ 64 = x.toNat / 2 ^ 64 := Nat.mod_eq_of_lt (by have := x.isLt; omega)
  have hlow : x.toNat % 2 ^ 64 % 2 ^ 32 = x.toNat % 2 ^ 32 := by omega
  have hnext : x.toNat % 2 ^ 64 / 2 ^ 32 = x.toNat / 2 ^ 32 % 2 ^ 32 := by omega
  have htop : x.toNat / 2 ^ 64 / 2 ^ 32 = x.toNat / 2 ^ 96 := by omega
  rw [payloadBytes, List.map_append, maskBytes_numbers, maskBytes_numbers, BitVec.toNat_setWidth, BitVec.toNat_setWidth,
    BitVec.toNat_ushiftRight, Nat.shiftRight_eq_div_pow, hhigh, hlow, hnext, htop, sixteenBytes]
  simp only [List.append_assoc]

/-- A pair of a capture holds its mark and its space (R58). -/
theorem captureBytes_numbers (pairs : List CapturePair) :
    (captureBytes pairs).map BitVec.toNat = pairs.flatMap fun p => twoBytes p.mark ++ twoBytes p.space := by
  have htwo : ∀ n : Nat, twoBytes (n % 2 ^ 16) = twoBytes n := by
    intro n
    simp only [twoBytes, List.cons.injEq, and_true]
    omega
  unfold captureBytes
  rw [List.map_flatMap]
  refine List.flatMap_congr fun p _ => ?_
  rw [List.map_append, halfBytes_numbers, halfBytes_numbers, BitVec.toNat_ofNat, BitVec.toNat_ofNat, htwo, htwo]

/-! ## Packed bytes -/

/-- Byte 0 of an event of a lane: phase, two bits, lane, kind. -/
theorem eventHead_toNat (phase : Bool) (two : BitVec 2) (l : Lane) (kind : BitVec 3) :
    (eventHead phase two l.val kind).toNat =
      (if phase then 128 else 0) + 32 * two.toNat + 8 * l.val + kind.toNat := by
  have hlane : l.val % 4 = l.val := Nat.mod_eq_of_lt l.isLt
  simp only [eventHead, bit, toNat_append_eq, toNat_ofBool_eq, BitVec.toNat_ofNat]
  split <;> omega

/-- Byte 1 of an event of an outbox: profile, wake, status (10.3.2). -/
theorem rxByte_toNat (i : SlotId) (wake : Bool) (status : BitVec 2) :
    (BitVec.ofNat 4 i.val ++ (0 : BitVec 1) ++ bit wake ++ status).toNat =
      16 * i.val + (if wake then 4 else 0) + status.toNat := by
  have hslot : i.val % 16 = i.val := Nat.mod_eq_of_lt i.isLt
  simp only [bit, toNat_append_eq, toNat_ofBool_eq, BitVec.ofNat_eq_ofNat, BitVec.toNat_ofNat, Nat.zero_mod]
  split <;> omega

/-! ## Events -/

theorem completionBytes_numbers (phase : Bool) (l : Lane) (head : Nat) (c : Completion) :
    (completionBytes phase l head c).map BitVec.toNat =
      [(if phase then 128 else 0) + 8 * l.val + 1, c.status.number.toNat, c.profile.toNat, c.bitCount % 256] ++
        twoBytes c.tag.toNat ++ [0, 0] ++ fourBytes c.timestamp.toNat ++ [head % 256, c.detail.toNat] ++
        twoBytes c.count.toNat ++ sixteenBytes c.payload.toNat := by
  unfold completionBytes
  simp only [List.map_append, List.map_cons, List.map_nil, halfBytes_numbers, wordBytes_numbers, payloadBytes_numbers,
    eventHead_toNat, BitVec.toNat_ofNat]
  rfl

theorem adminDoneBytes_numbers (phase : Bool) (head : Nat) (d : AdminDone) :
    (adminDoneBytes phase head d).map BitVec.toNat =
      [(if phase then 128 else 0) + 2, d.status.number.toNat, d.profile.toNat, 0] ++ twoBytes d.tag.toNat ++ [0, 0] ++
        fourBytes d.timestamp.toNat ++ [head % 256, 0] ++ twoBytes d.detail.toNat ++ List.replicate 16 0 := by
  unfold adminDoneBytes
  simp only [List.map_append, List.map_cons, List.map_nil, halfBytes_numbers, wordBytes_numbers, payloadBytes_numbers,
    show eventHead phase 0 0 2 = eventHead phase 0 (0 : Lane).val 2 from rfl, eventHead_toNat, BitVec.toNat_ofNat]
  rfl

theorem rxEventBytes_numbers (phase : Bool) (l : Lane) (ev : RxEvent) :
    (rxEventBytes phase l ev).map BitVec.toNat =
      [(if phase then 128 else 0) + 32 * (phaseCode ev.phase).toNat + 8 * l.val + (rxKindCode ev.kind).toNat,
          16 * ev.profile.val + (if ev.wake then 4 else 0) + (rxStatus ev.kind ev.status).toNat, ev.lost.toNat,
          ev.bitCount % 256] ++
        twoBytes ev.tag.toNat ++ twoBytes ev.repeatCount.toNat ++ fourBytes ev.timestamp.toNat ++
          fourBytes ev.aux.toNat ++ sixteenBytes ev.payload.toNat := by
  unfold rxEventBytes
  simp only [List.map_append, List.map_cons, List.map_nil, halfBytes_numbers, wordBytes_numbers, payloadBytes_numbers,
    eventHead_toNat, rxByte_toNat, BitVec.toNat_ofNat]

/-- Settles O53: the code table, the two plain records, and the event of each kind of writer
(`completionBytes_numbers`, `adminDoneBytes_numbers`, `rxEventBytes_numbers`). -/
theorem writtenEventLayout : Obligations.WrittenEventLayout := by
  intro s phase l top two four sixteen numbers
  refine ⟨⟨rfl, rfl⟩, captureBytes_numbers, wordBytes_numbers, fun c hc => ?_, fun d q hd hq => ?_,
    fun ev rest hevents => ?_⟩
  · have hbytes : s.eventBytes phase (.sequencer l) = completionBytes phase l (s.lane l).queue.head c := by
      simp only [State.eventBytes, hc]
    rw [hbytes]
    exact completionBytes_numbers phase l _ c
  · have hbytes : s.eventBytes phase .commandUnit = adminDoneBytes phase q.head d := by
      simp only [State.eventBytes, hd, hq]
    rw [hbytes]
    exact adminDoneBytes_numbers phase q.head d
  · intro kind press status wake
    have hbytes : s.eventBytes phase (.outbox l) = rxEventBytes phase l ev := by
      simp only [State.eventBytes, hevents]
    have hkind : (rxKindCode ev.kind).toNat = kind := by
      dsimp only [kind]
      cases ev.kind <;> rfl
    have hpress : (phaseCode ev.phase).toNat = press := by
      dsimp only [press]
      cases ev.phase <;> rfl
    have hstatus : (rxStatus ev.kind ev.status).toNat = status := by
      dsimp only [status]
      cases ev.kind <;> cases ev.status <;> rfl
    rw [hbytes, ← hkind, ← hpress, ← hstatus]
    exact rxEventBytes_numbers phase l ev

end Sys2Proof.Machine
end

section
/-! The decoder's answer to a transition (R39 to R57): the trial of a candidate list, the end of an unclassified burst at a
new mark, and each state's own part. -/

namespace Sys2Proof.Machine

open Sys2Proof.Claims

section
variable {l : Lane} {s u : State} {edge : Moment}

/-! ## The trial of a candidate list (R42) -/

theorem pressOpen_iff (x : LaneState) (i : SlotId) : pressOpen x i = true ↔ ∃ p, x.press = some p ∧ p.profile = i := by
  unfold pressOpen
  cases x.press <;> simp

/-- A candidate decides nothing: its leader space does not match, and its repeat space matches at most without a press
of its profile open. -/
def SpaceFails (s : State) (l : Lane) (d : Nat) (c : Candidate) : Prop :=
  leaderSpaceMatch (s.profile c.slot) c d = none ∧
    (repeatSpaceMatch (s.profile c.slot) c d ≠ none → ¬ ∃ p, (s.lane l).press = some p ∧ p.profile = c.slot)

/-- A candidate that decides nothing is passed over, and remembered when it is the first match by a repeat space. -/
theorem trySpace_cons_of_fails {d : Nat} {c : Candidate} (h : SpaceFails s l d c) (rest : List Candidate)
    (remembered : Option (SlotId × Nat)) :
    trySpace s l d (c :: rest) remembered =
      trySpace s l d rest
        (remembered.or ((repeatSpaceMatch (s.profile c.slot) c d).map fun scale => (c.slot, scale))) := by
  obtain ⟨hleader, hpress⟩ := h
  rw [trySpace]
  cases hrepeat : repeatSpaceMatch (s.profile c.slot) c d with
  | none => simp [hleader]
  | some scale =>
    have hclosed : pressOpen (s.lane l) c.slot = false :=
      Bool.eq_false_iff.mpr (mt (pressOpen_iff _ _).mp (hpress (by simp [hrepeat])))
    simp [hleader, hclosed]

/-- Candidates that decide nothing are passed over. -/
theorem trySpace_append_of_fails {d : Nat} {before : List Candidate} (h : ∀ c ∈ before, SpaceFails s l d c)
    (rest : List Candidate) (remembered : Option (SlotId × Nat)) :
    ∃ remembered', trySpace s l d (before ++ rest) remembered = trySpace s l d rest remembered' := by
  induction before generalizing remembered with
  | nil => exact ⟨remembered, rfl⟩
  | cons c before ih =>
    obtain ⟨hc, hbefore⟩ := List.forall_mem_cons.mp h
    rw [List.cons_append, trySpace_cons_of_fails hc]
    exact ih hbefore _

/-- Candidates without any match leave no trace. -/
theorem trySpace_append_of_unmatched {d : Nat} {before : List Candidate} (h : ∀ c ∈ before, SpaceFails s l d c)
    (hnone : ∀ c ∈ before, repeatSpaceMatch (s.profile c.slot) c d = none) (rest : List Candidate)
    (remembered : Option (SlotId × Nat)) :
    trySpace s l d (before ++ rest) remembered = trySpace s l d rest remembered := by
  induction before with
  | nil => rfl
  | cons c before ih =>
    obtain ⟨hc, hbefore⟩ := List.forall_mem_cons.mp h
    obtain ⟨hunmatched, hrest⟩ := List.forall_mem_cons.mp hnone
    rw [List.cons_append, trySpace_cons_of_fails hc, hunmatched, Option.map_none, Option.or_none, ih hbefore hrest]

/-- A match remembered stands when nothing else decides. -/
theorem trySpace_of_remembered {d : Nat} {cs : List Candidate} (h : ∀ c ∈ cs, SpaceFails s l d c) (i : SlotId)
    (scale : Nat) : trySpace s l d cs (some (i, scale)) = .orphan i scale := by
  induction cs with
  | nil => rfl
  | cons c cs ih =>
    obtain ⟨hc, hcs⟩ := List.forall_mem_cons.mp h
    rw [trySpace_cons_of_fails hc]
    exact ih hcs

theorem trySpace_frame {d scale : Nat} {half : Option Bool} {before after : List Candidate} {c : Candidate}
    (h : ∀ b ∈ before, SpaceFails s l d b) (hc : leaderSpaceMatch (s.profile c.slot) c d = some (scale, half)) :
    trySpace s l d (before ++ c :: after) none = .frame c.slot scale half := by
  obtain ⟨remembered, hskip⟩ := trySpace_append_of_fails h (c :: after) none
  rw [hskip, trySpace]
  simp [hc]

theorem trySpace_repeatCode {d scale : Nat} {before after : List Candidate} {c : Candidate}
    (h : ∀ b ∈ before, SpaceFails s l d b) (hleader : leaderSpaceMatch (s.profile c.slot) c d = none)
    (hc : repeatSpaceMatch (s.profile c.slot) c d = some scale)
    (hpress : ∃ p, (s.lane l).press = some p ∧ p.profile = c.slot) :
    trySpace s l d (before ++ c :: after) none = .repeatCode c.slot scale := by
  obtain ⟨remembered, hskip⟩ := trySpace_append_of_fails h (c :: after) none
  rw [hskip, trySpace]
  simp [hleader, hc, (pressOpen_iff _ _).mpr hpress]

theorem trySpace_orphan {d scale : Nat} {before after : List Candidate} {c : Candidate}
    (h : ∀ b ∈ before ++ c :: after, SpaceFails s l d b)
    (hnone : ∀ b ∈ before, repeatSpaceMatch (s.profile b.slot) b d = none)
    (hc : repeatSpaceMatch (s.profile c.slot) c d = some scale) :
    trySpace s l d (before ++ c :: after) none = .orphan c.slot scale := by
  obtain ⟨hbefore, hrest⟩ := List.forall_mem_append.mp h
  obtain ⟨hfails, hafter⟩ := List.forall_mem_cons.mp hrest
  rw [trySpace_append_of_unmatched hbefore hnone, trySpace_cons_of_fails hfails, hc]
  exact trySpace_of_remembered hafter _ _

theorem trySpace_unclassified {d : Nat} {cs : List Candidate}
    (h : ∀ c ∈ cs, leaderSpaceMatch (s.profile c.slot) c d = none ∧ repeatSpaceMatch (s.profile c.slot) c d = none) :
    trySpace s l d cs none = .unclassified := by
  have hskip := trySpace_append_of_unmatched (s := s) (l := l) (before := cs)
    (fun c hc => ⟨(h c hc).1, fun hmatch => absurd (h c hc).2 hmatch⟩) (fun c hc => (h c hc).2) [] none
  rwa [List.append_nil] at hskip

/-! ## An unclassified burst that a new mark ends (R43) -/

/-- A claim for a buffer leaves the lane's sequencer, settings and blind condition alone. -/
theorem claimed_lane {b : Option Word} (h : Claimed l s b u) :
    (u.lane l).seq = (s.lane l).seq ∧ (u.lane l).settings = (s.lane l).settings ∧
      (u.lane l).blind = (s.lane l).blind := by
  rcases h with ⟨-, -, w, rest, -, -, rfl⟩ | ⟨-, -, -, rfl⟩ | ⟨-, -, rfl⟩
  · exact ⟨rfl, rfl, rfl⟩
  · simp [bump_lane]
  · simp [bump_lane]

/-- So does the passing of the one pair to the capture writer. -/
theorem single_lane (l : Lane) (b : Option Word) (start : Moment) (m : Nat) (u : State) :
    ((single l b start m u).lane l).seq = (u.lane l).seq ∧
      ((single l b start m u).lane l).settings = (u.lane l).settings ∧
      ((single l b start m u).lane l).blind = (u.lane l).blind := by
  cases b with
  | none => exact ⟨rfl, rfl, rfl⟩
  | some w =>
    have hasked : ∀ (tr : Transaction) (v : State), (asked (.captureWriter l) tr v).lane l = v.lane l := by
      intro tr v
      rcases askBus_cases (.captureWriter l) tr v with ⟨-, hask⟩ | ⟨-, hask⟩ <;> rw [asked_eq_askBus, hask]
      rfl
    simp [single, passed, hasked]

/-- What an unclassified burst goes on as after a new mark: CAPTURE with its first pair, DRAIN without a buffer (R43). -/
def pairedWork (start : Moment) (m d : Nat) : Option Word → Decoder
  | some w => .capture { buffer := w, start := start, pairs := [⟨m, d⟩], openMark := none }
  | none => .drain .settle

theorem unclassifiedSpace_of_short {b : Option Word} (hclaim : Claimed l s b u) {d : Nat}
    (hd : d < (s.lane l).settings.settleSilence) (start : Moment) (m : Nat) :
    unclassifiedSpace l start m d (some edge) s = setDecoder l (pairedWork start m d b) u := by
  unfold unclassifiedSpace
  dsimp only
  rw [claimCapture_of_claimed hclaim, if_pos hd]
  cases b <;> rfl

/-- The burst has ended: the decoder enters HUNT, and takes the new mark there or has been blinded by a start (R43 (2)). -/
theorem unclassifiedSpace_of_long {b : Option Word} (hclaim : Claimed l s b u) {d : Nat}
    (hd : (s.lane l).settings.settleSilence ≤ d) (start : Moment) (m : Nat) {after : State}
    (hafter : enterHunt l (single l b start m u) = after) :
    (∀ since, (after.lane l).decoder = .hunt since →
      unclassifiedSpace l start m d (some edge) s = setDecoder l (.leader edge) after) ∧
    ((after.lane l).decoder = .blind → unclassifiedSpace l start m d (some edge) s = markOverrun l after) := by
  have hsettings : (u.lane l).settings = (s.lane l).settings := claimed_settings hclaim
  unfold unclassifiedSpace
  simp only [if_neg (Nat.not_lt.mpr hd), claimCapture_of_claimed hclaim]
  cases b with
  | none =>
    simp only [single] at hafter
    simp only [hafter]
    exact ⟨fun since h => by simp only [h], fun h => by simp only [h]⟩
  | some w =>
    simp only [single, hsettings] at hafter
    simp only [finishCapture_eq_passed, hafter]
    exact ⟨fun since h => by simp only [h], fun h => by simp only [h]⟩

theorem unclassifiedSpace_of_hunt {b : Option Word} (hclaim : Claimed l s b u) {d : Nat}
    (hd : (s.lane l).settings.settleSilence ≤ d) (hdefer : (s.lane l).seq.state ≠ .defer) (start : Moment) (m : Nat) :
    unclassifiedSpace l start m d (some edge) s = setDecoder l (.leader edge) (single l b start m u) := by
  obtain ⟨hseq, -⟩ := claimed_lane hclaim
  obtain ⟨hkept, -⟩ := single_lane l b start m u
  have hhunt := enterHunt_of_not_defer (l := l) (s := single l b start m u) (by rw [hkept, hseq]; exact hdefer)
  rw [(unclassifiedSpace_of_long hclaim hd start m hhunt).1 _ (congrArg LaneState.decoder (setDecoder_lane l _ _)),
    setDecoder_setDecoder]

/-- A sequencer in DEFER takes the entry into HUNT, and its start overruns the new mark (R34, log entry 28). -/
theorem unclassifiedSpace_of_defer {b : Option Word} (hclaim : Claimed l s b u) {d : Nat}
    (hd : (s.lane l).settings.settleSilence ≤ d) (hdefer : (s.lane l).seq.state = .defer)
    (hactive : (s.lane l).seq.active.isSome) (hshared : (s.lane l).settings.mode = .shared)
    (hclear : (s.lane l).blind = false) (start : Moment) (m : Nat) :
    unclassifiedSpace l start m d (some edge) s = overrun l (hunting l (single l b start m u)) := by
  obtain ⟨hseq, hsettings, hblind⟩ := claimed_lane hclaim
  obtain ⟨hkept, hsame, hstill⟩ := single_lane l b start m u
  obtain ⟨r, hr⟩ := Option.isSome_iff_exists.mp hactive
  have hdecoder : ((hunting l (single l b start m u)).lane l).decoder = .blind := by
    unfold hunting
    simp only [hkept, hseq, hdefer, hr]
    exact onAir_decoder (by simp [hsame, hsettings, hshared]) (by simp [hstill, hblind, hclear]) r false
  exact (unclassifiedSpace_of_long hclaim hd start m (enterHunt_eq_hunting l _)).2 hdecoder

/-! ## Transitions, by the decoder's state -/

theorem takeTransition_off (h : (s.lane l).decoder = .off) (mark : Bool) (ended : Option Nat) :
    takeTransition l mark edge ended s = s := by
  unfold takeTransition
  rw [h]

theorem takeTransition_blind (h : (s.lane l).decoder = .blind) (mark : Bool) (ended : Option Nat) :
    takeTransition l mark edge ended s = if mark then blindMark l edge s else s := by
  unfold takeTransition
  rw [h]

theorem takeTransition_hunt {since : Moment} (h : (s.lane l).decoder = .hunt since) (mark : Bool)
    (ended : Option Nat) :
    takeTransition l mark edge ended s =
      if mark && decide (since < edge) then setDecoder l (.leader edge) s else s := by
  unfold takeTransition
  rw [h]

theorem takeTransition_leader {start : Moment} (h : (s.lane l).decoder = .leader start) (m : Nat) :
    takeTransition l false edge (some m) s = firstMarkEnds l start m s := by
  unfold takeTransition
  rw [h]

theorem takeTransition_spaceCheck {start : Moment} {m : Nat} {cs : List Candidate}
    (h : (s.lane l).decoder = .spaceCheck start m cs) (d : Nat) :
    takeTransition l true edge (some d) s = firstSpaceEnds l start m cs d edge s := by
  unfold takeTransition
  rw [h]

theorem takeTransition_symbols {start : Moment} {i : SlotId} {scale : Nat} {part : PartialFrame}
    (h : (s.lane l).decoder = .symbols start i scale part) (mark : Bool) (d : Nat) :
    takeTransition l mark edge (some d) s = symbolTaken l start i scale d (!mark) part s := by
  unfold takeTransition
  rw [h]

theorem takeTransition_repeatTail {start : Moment} {i : SlotId} {scale : Nat}
    (h : (s.lane l).decoder = .repeatTail start i scale) :
    (∀ d, takeTransition l false edge (some d) s = closingMarkEnds l i scale d s) ∧
      ∀ ended, takeTransition l true edge ended s = orphan l i scale s := by
  unfold takeTransition
  rw [h]
  exact ⟨fun _ => rfl, fun _ => rfl⟩

theorem takeTransition_drain {k : DrainKind} (h : (s.lane l).decoder = .drain k) (hk : k ≠ .stuck) (mark : Bool)
    (ended : Option Nat) : takeTransition l mark edge ended s = s := by
  unfold takeTransition
  rw [h]
  cases k with
  | stuck => contradiction
  | settle | profile n => rfl

theorem takeTransition_stuck (h : (s.lane l).decoder = .drain .stuck) (mark : Bool) (ended : Option Nat) :
    takeTransition l mark edge ended s = if mark then s else enterHunt l s := by
  unfold takeTransition
  rw [h]

theorem takeTransition_capture {w : CaptureWork} (h : (s.lane l).decoder = .capture w) (d : Nat) :
    takeTransition l false edge (some d) s = captureMark l w d s ∧
      takeTransition l true edge (some d) s = captureSpace l w d s := by
  unfold takeTransition
  rw [h]
  exact ⟨rfl, rfl⟩

/-- A mark while the decoder is BLIND, begun together with a first transmission's start, is overrun (R34, log entry
30). -/
theorem blindMark_of_met {t : Transmission} {since : Moment} (htx : (s.lane l).tx = some t)
    (hmet : t.metHunt = some since) (hstart : t.start = s.clock) (hsince : since < edge) (hedge : edge < t.start) :
    blindMark l edge s = overrun l s := by
  unfold blindMark
  simp only [htx, hmet]
  rw [if_pos ⟨hstart, hsince, hedge⟩]
  rfl

theorem blindMark_of_not_met
    (h : ∀ t since, (s.lane l).tx = some t → t.metHunt = some since → t.start = s.clock → edge ≤ since ∨ t.start ≤ edge) :
    blindMark l edge s = s := by
  rcases blindMark_cases l edge s with ⟨t, since, htx, hmet, hstart, hsince, hedge, -⟩ | hsame
  · rcases h t since htx hmet hstart with hearly | hlate
    · exact absurd hsince (Nat.not_lt.mpr hearly)
    · exact absurd hedge (Nat.not_lt.mpr hlate)
  · exact hsame

/-- An interval in SYMBOLS goes on with the frame or ends it in error (R44, R50). -/
theorem symbolTaken_eq (l : Lane) (start : Moment) (i : SlotId) (scale d : Nat) (level : Bool) (part : PartialFrame)
    (s : State) :
    symbolTaken l start i scale d level part s =
      match symbol (s.profile i) scale d level part with
      | .ok next => setDecoder l (.symbols start i scale next) s
      | .broken last =>
          setDecoder l (.drain (.profile ((s.profile i).endSilence * scale / 256))) (frameInError l .broken i start last s)
      | .long last =>
          setDecoder l (.drain (.profile ((s.profile i).endSilence * scale / 256))) (frameInError l .long i start last s) := by
  unfold symbolTaken brokenInside
  cases symbol (s.profile i) scale d level part <;> simp only [frameError_eq_frameInError] <;> rfl

theorem captureSpace_of_room {w : CaptureWork} {m : Nat} (hm : w.openMark = some m) (d : Nat)
    (h : w.pairs.length < 63) :
    captureSpace l w d s = setDecoder l (.capture { w with pairs := w.pairs ++ [⟨m, d⟩], openMark := none }) s := by
  have hroom : (w.pairs ++ [(⟨m, d⟩ : CapturePair)]).length < Config.capturePairs := by
    rw [List.length_append, List.length_singleton]
    exact Nat.succ_lt_succ h
  unfold captureSpace
  simp only [hm, if_pos hroom]

theorem captureSpace_of_full {w : CaptureWork} {m : Nat} (hm : w.openMark = some m) (d : Nat)
    (h : w.pairs.length = 63) :
    captureSpace l w d s =
      passed l w.buffer w.start .captureFull (w.pairs ++ [⟨m, d⟩]) (setDecoder l (.drain .settle) s) := by
  have hfull : ¬ (w.pairs ++ [(⟨m, d⟩ : CapturePair)]).length < Config.capturePairs := by
    rw [List.length_append, List.length_singleton, h]
    decide
  unfold captureSpace
  simp only [hm, if_neg hfull, finishCapture_eq_passed]

end

/-- Settles O33: each state by its own lemma (`takeTransition_off` to `takeTransition_capture`), SPACE_CHECK by what the
trial of its candidates finds. -/
theorem decoderTakesTransition : Obligations.DecoderTakesTransition := by
  intro l edge ended s x become drains collects
  refine ⟨fun h mark => takeTransition_off h mark ended, fun h => ⟨?_, fun t since htx hmet hstart hsince hedge => ?_,
      fun hfree => ?_⟩, fun since h => ⟨fun hlt => ?_, fun hle => ?_, takeTransition_hunt h false ended⟩,
    fun start m c cs h hcs => ?_, fun start m b u h hcs hclaim => ?_, fun start m cs d h => ?_,
    fun start i scale part d mark h => ?_, fun start i scale h => ?_, fun k h hk mark => takeTransition_drain h hk mark ended,
    fun h => ⟨takeTransition_stuck h true ended, ?_⟩, fun w d h => ⟨(takeTransition_capture h d).1, fun m hm => ?_⟩⟩
  · exact takeTransition_blind h false ended
  · exact (takeTransition_blind h true ended).trans (blindMark_of_met htx hmet hstart hsince hedge)
  · exact (takeTransition_blind h true ended).trans (blindMark_of_not_met hfree)
  · rw [takeTransition_hunt h, if_pos (by simpa using hlt)]
    rfl
  · rw [takeTransition_hunt h, if_neg (by simpa using hle)]
  · rw [takeTransition_leader h]
    unfold firstMarkEnds
    rw [hcs]
    rfl
  · have hends : takeTransition l false edge (some m) s = setDecoder l (runningWork start m b) u := by
      rw [takeTransition_leader h]
      unfold firstMarkEnds
      rw [hcs, claimCapture_of_claimed hclaim]
      cases b <;> rfl
    rw [hends]
    exact ⟨fun w hw => hw ▸ rfl, fun hb => hb ▸ rfl⟩
  · intro leads repeats pressed fails
    rw [takeTransition_spaceCheck h]
    unfold firstSpaceEnds
    refine ⟨fun before c after hcs hbefore => ⟨fun scale half hleads => ?_, fun scale hnone hrepeats hpress => ?_⟩,
      fun before c after scale hcs hfails hbefore hrepeats => ?_, fun b u hnone hclaim => ?_⟩
    · rw [hcs, trySpace_frame hbefore hleads]
      rfl
    · rw [hcs, trySpace_repeatCode hbefore hnone hrepeats hpress]
      rfl
    · rw [hcs] at hfails ⊢
      rw [trySpace_orphan hfails hbefore hrepeats]
      rfl
    · rw [trySpace_unclassified hnone]
      refine ⟨fun hlt => ?_, fun hle => ⟨fun hdefer => ?_, fun hdefer hactive hshared hclear => ?_⟩⟩
      · have hgoes := unclassifiedSpace_of_short (edge := edge) hclaim hlt start m
        exact ⟨fun w hw => hgoes.trans (hw ▸ rfl), fun hb => hgoes.trans (hb ▸ rfl)⟩
      · exact unclassifiedSpace_of_hunt hclaim hle hdefer start m
      · exact unclassifiedSpace_of_defer hclaim hle hdefer hactive hshared hclear start m
  · rw [takeTransition_symbols h, symbolTaken_eq]
    refine ⟨fun next hnext => ?_, fun last hlast => ?_, fun last hlast => ?_⟩
    · rw [hnext]
      rfl
    · rw [hlast]
      rfl
    · rw [hlast]
      rfl
  · obtain ⟨hcloses, hbreaks⟩ := takeTransition_repeatTail (edge := edge) h
    refine ⟨fun d => ?_, hbreaks ended⟩
    rw [hcloses, fits_eq_inScaled]
    unfold closingMarkEnds
    exact ⟨fun hfits => if_pos hfits, fun hmisses => if_neg (Bool.eq_false_iff.mp hmisses)⟩
  · exact (takeTransition_stuck h false ended).trans (enterHunt_eq_hunting l s)
  · rw [(takeTransition_capture h d).2]
    exact ⟨fun hroom => captureSpace_of_room hm d hroom, fun hfull => captureSpace_of_full hm d hfull⟩

end Sys2Proof.Machine
end

section
/-! ABORT_LANE and RESET_LANE (R100, R109, R118, R152 to R154): what the request in hand comes to, the entries a flush
notes, and when the command is decided. -/

namespace Sys2Proof.Machine

open Sys2Proof.Claims

/-! ## A lane whose active request is aborted -/

/-- A transmission of the lane, on the line of a SHARED lane, is cut by an abort. -/
def LaneState.cutsShared (x : LaneState) : Bool := x.tx.isSome && x.settings.mode == .shared

/-- A lane whose active request an abort ends: the end cause is discarded, and a transmission leaves the line (R100, R109,
R118). -/
def LaneState.aborted (x : LaneState) (r : ActiveRequest) (now : Moment) (gap : Nat) : LaneState :=
  { x with
    tx := none,
    echoDue := if x.cutsShared ∧ 0 < x.settings.echoGuard then some (now + x.settings.echoGuard) else x.echoDue,
    seq :=
      { x.seq with
        active := some { r with endCause := none },
        lineFree := if x.tx.isSome then some (now + gap) else x.seq.lineFree } }

/-- The state in which lane `l`'s request is aborted and its list read discarded (R94, R100). -/
def abortedAt (l : Lane) (r : ActiveRequest) (s : State) : State :=
  (s.setLane l ((s.lane l).aborted r s.clock (s.gapAfter r))).setBus (.sequencer l)
    (listUnwanted (s.busSlot (.sequencer l)))

/-- The same with the blind condition withdrawn, where a cut withdraws it at once (R32). -/
def cutAt (l : Lane) (r : ActiveRequest) (s : State) : State :=
  if (s.lane l).cutsShared ∧ (s.lane l).settings.echoGuard = 0 then withdrawBlind l (abortedAt l r s)
  else abortedAt l r s

/-- An update of a lane and the bus port's places do not touch each other. -/
theorem State.setLane_setBus_setLane (s : State) (l : Lane) (c : BusClient) (p : BusSlot) (x y : LaneState) :
    ((s.setLane l x).setBus c p).setLane l y = (s.setLane l y).setBus c p :=
  congrArg (fun u : State => u.setBus c p) (State.setLane_setLane s l x y)

section
variable {l : Lane} {s : State} {r : ActiveRequest}

theorem setEndCause_discardListRead (l : Lane) (r : ActiveRequest) (s : State) :
    setEndCause l r none (discardListRead l s) =
      (s.setLane l { s.lane l with seq := { (s.lane l).seq with active := some { r with endCause := none } } }).setBus
        (.sequencer l) (listUnwanted (s.busSlot (.sequencer l))) := by
  rw [discardListRead_eq_setBus]
  rfl

/-- With nothing on the line there is nothing to cut. -/
theorem cutAt_of_waiting (htx : (s.lane l).tx = none) :
    cutAt l r s = setEndCause l r none (discardListRead l s) := by
  have hcuts : (s.lane l).cutsShared = false := by simp [LaneState.cutsShared, htx]
  have hlane : (s.lane l).aborted r s.clock (s.gapAfter r) =
      { s.lane l with seq := { (s.lane l).seq with active := some { r with endCause := none } } } := by
    simp [LaneState.aborted, hcuts, htx]
  unfold cutAt abortedAt
  rw [setEndCause_discardListRead, hlane, if_neg (by simp [hcuts])]

/-- A transmission on the line is cut (R109, R118). -/
theorem cutAt_of_onLine {t : Transmission} (htx : (s.lane l).tx = some t) :
    cutAt l r s = leaveLine l r (setEndCause l r none (discardListRead l s)) := by
  have hcuts : (s.lane l).cutsShared = ((s.lane l).settings.mode == .shared) := by simp [LaneState.cutsShared, htx]
  rw [setEndCause_discardListRead, leaveLine_eq]
  unfold cutAt abortedAt LaneState.aborted
  simp only [hcuts, htx, Option.isSome_some, if_true, beq_iff_eq, State.setBus_lane, State.setLane_lane_self,
    State.setLane_setBus_setLane]
  by_cases hshared : (s.lane l).settings.mode = .shared
  · by_cases hguard : (s.lane l).settings.echoGuard = 0
    · simp only [hshared, hguard, and_self, if_true, Nat.lt_irrefl, and_false, if_false]
      rfl
    · simp only [hshared, hguard, and_false, if_true, if_false, Nat.pos_of_ne_zero hguard, and_self]
      rfl
  · simp only [hshared, false_and, if_false]
    rfl

theorem onlyLane_cutAt (l : Lane) (r : ActiveRequest) (s : State) : OnlyLane l s (cutAt l r s) := by
  have haborted : OnlyLane l s (abortedAt l r s) := (onlyLane_setLane l _ s).trans (onlyLane_setBus (.inl rfl) _ _)
  unfold cutAt
  split
  · exact haborted.trans (onlyLane_withdrawBlind l _)
  · exact haborted

theorem cutAt_limits (l : Lane) (r : ActiveRequest) (s : State) : (cutAt l r s).limits l = s.limits l := by
  have haborted : (abortedAt l r s).limits l = s.limits l := State.limits_setLane l _ s
  unfold cutAt
  split
  · rw [withdrawBlind_limits, haborted]
  · exact haborted

/-- The withdrawal at a cut finds the sequencer with its transmission, and leaves it alone. -/
theorem cutAt_seq (hone : (s.lane l).oneRequest) :
    ((cutAt l r s).lane l).seq = ((s.lane l).aborted r s.clock (s.gapAfter r)).seq := by
  have hseq : ((abortedAt l r s).lane l).seq = ((s.lane l).aborted r s.clock (s.gapAfter r)).seq := by
    simp [abortedAt]
  unfold cutAt
  split
  · rename_i hcut
    obtain ⟨-, hline, -⟩ := hone
    have hsends : (s.lane l).seq.state.onLine = true := hline.mp (Bool.and_eq_true_iff.mp hcut.1).1
    have hstate : ((abortedAt l r s).sender l).seq.state = (s.lane l).seq.state := by
      show ((abortedAt l r s).lane l).seq.state = _
      rw [hseq]
      rfl
    have hheard := (heard_withdrawBlind l (abortedAt l r s)).eq_of_busy
      (fun hd => by simp [← hstate, hd, SeqState.onLine] at hsends)
      (fun hl => by simp [← hstate, hl, SeqState.onLine] at hsends)
    exact (congrArg Sender.seq hheard).trans hseq
  · exact hseq

/-- The active request completes ABORTED (R100). -/
theorem abortActive_eq (hone : (s.lane l).oneRequest) :
    abortActive l r s =
      (cutAt l r s).setLane l
        { (cutAt l r s).lane l with
          seq := posting ((s.lane l).aborted r s.clock (s.gapAfter r)).seq
            (completion s l .aborted r.entry.tag r.entry.profile r.started 0) } := by
  have hcut : abortActive l r s = finish l r .aborted 0 (cutAt l r s) := by
    have hmarked : ((setEndCause l r none (discardListRead l s)).lane l).tx = (s.lane l).tx := by
      simp [setEndCause]
    unfold abortActive
    simp only [hmarked]
    cases htx : (s.lane l).tx with
    | none => rw [cutAt_of_waiting htx]
    | some t => rw [cutAt_of_onLine htx]
  rw [hcut, finish_eq_posting, completion_of_onlyLane (onlyLane_cutAt l r s) (cutAt_limits l r s), cutAt_seq hone]

/-! ## The request in hand (R100, R152) -/

theorem abortInHand_of_active (hactive : (s.lane l).seq.active = some r) (hposting : (s.lane l).seq.state ≠ .posting)
    (flush : Bool) : abortInHand l flush s = (abortActive l r s, 1) := by
  unfold abortInHand
  simp only [hactive]

theorem abortInHand_of_posting (hposting : (s.lane l).seq.state = .posting) (flush : Bool) :
    abortInHand l flush s = (s, 0) := by
  unfold abortInHand
  simp only [hposting]

/-- An entry taken is answered ABORTED under a flush (R100, R152). -/
theorem abortInHand_of_taken {e : RequestEntry} (hfetch : (s.lane l).seq.state = .fetch)
    (hactive : (s.lane l).seq.active = none) (htaken : (s.lane l).seq.taken = some e) (flush : Bool) :
    abortInHand l flush s = if flush then (answer l e .aborted e.profile 0 s, 1) else (s, 0) := by
  unfold abortInHand
  simp only [hfetch, hactive, htaken]

/-- An entry whose read is in flight runs on (R100). -/
theorem abortInHand_of_untaken (hactive : (s.lane l).seq.active = none) (htaken : (s.lane l).seq.taken = none)
    (flush : Bool) : abortInHand l flush s = (s, 0) := by
  unfold abortInHand
  simp only [hactive, htaken]
  split
  · rfl
  · contradiction
  · contradiction
  · rfl

/-! ## The entries of a flush (R83, R152) -/

theorem waiting_eq (q : RequestQueue) :
    q.waiting = if q.state = .running then (q.tail + q.size - q.head) % q.size else 0 := by
  unfold RequestQueue.waiting
  cases q.state <;> rfl

theorem toFlush_of_untaken {x : LaneState} (hfetch : x.seq.state = .fetch) (htaken : x.seq.taken = none) :
    x.toFlush = max 1 x.queue.waiting := by
  unfold LaneState.toFlush
  simp only [hfetch, htaken]

theorem toFlush_of_not_reading {x : LaneState} (h : x.seq.state ≠ .fetch ∨ x.seq.taken ≠ none) :
    x.toFlush = x.queue.waiting := by
  unfold LaneState.toFlush
  split
  · rename_i hfetch htaken
    rcases h with h | h
    · exact absurd hfetch h
    · exact absurd htaken h
  · rfl

/-! ## The command -/

/-- The command waits in EXECUTING for its lane (R153, R154). -/
def abortExecuting (tag : Half) (l : Lane) (reset : Bool) (s : State) : State :=
  setAdmin (.executing tag (.laneAbort l reset)) s

/-- The entries that the command's flush notes. -/
def LaneState.flushed (x : LaneState) (flush : Bool) : Nat := if flush then x.toFlush else 0

variable {tag : Half} {flush reset : Bool} {v : State} {n : Nat}

/-- The lane notes what its abort has caused and what a flush will take (R152). -/
def abortNoted (l : Lane) (remaining aborted : Nat) (s : State) : State :=
  s.modSeq l fun q => { q with abort := some { remaining := remaining, aborted := aborted } }

theorem abortNoted_setLane (l : Lane) (remaining aborted : Nat) (x : LaneState) (s : State) :
    abortNoted l remaining aborted (s.setLane l x) =
      s.setLane l { x with seq := { x.seq with abort := some { remaining := remaining, aborted := aborted } } } := by
  simp [abortNoted, State.modSeq_def]

/-- A lane with nothing to end reports at once, a RESET_LANE with its reset (R153, R154). -/
theorem abortLane_at_once (hcaught : abortInHand l flush (abortExecuting tag l reset s) = (abortExecuting tag l reset s, 0))
    (hflushed : (s.lane l).flushed flush = 0) (habort : (s.lane l).seq.abort = none) :
    abortLane tag l flush reset s = answered (if reset then resetLane l s else s) .ok tag 0 0 := by
  have hnothing : abortLane tag l flush reset s = reportAbort l 0 (abortExecuting tag l reset s) := by
    have hentries : (if flush then (s.lane l).toFlush else 0) = 0 := hflushed
    unfold abortExecuting at hcaught ⊢
    simp only [abortLane, hcaught, setAdmin_lane, hentries, and_self, if_true]
  rw [hnothing]
  cases reset with
  | true =>
    rw [reportAbort_of_reset (s := abortExecuting tag l true s) habort rfl]
    unfold abortExecuting
    rw [resetLane_setAdmin]
    rfl
  | false =>
    have hsame : (abortExecuting tag l false s).modSeq l (fun q => { q with abort := none }) =
        abortExecuting tag l false s := by
      have habort : ((abortExecuting tag l false s).lane l).seq.abort = none := habort
      rw [State.modSeq_def, ← habort, State.setLane_lane_same]
    unfold reportAbort
    simp only [hsame]
    rfl

/-- Otherwise it notes what is to come; an IDLE sequencer begins to read (R152). -/
theorem abortLane_notes (hcaught : abortInHand l flush (abortExecuting tag l reset s) = (v, n))
    (hsome : ¬ ((s.lane l).flushed flush = 0 ∧ n = 0)) :
    abortLane tag l flush reset s =
      if (v.lane l).seq.state = .idle then beginFetch l (abortNoted l ((s.lane l).flushed flush) n v)
      else abortNoted l ((s.lane l).flushed flush) n v := by
  unfold LaneState.flushed at hsome
  unfold abortExecuting at hcaught
  simp only [abortLane, hcaught, setAdmin_lane, if_neg hsome, State.modSeq_lane_self]
  unfold LaneState.flushed abortNoted
  cases hstate : (v.lane l).seq.state <;> simp

/-- An active request is aborted, and the flush's entries are to come (R100, R152). -/
theorem abortLane_of_active (hone : (s.lane l).oneRequest) (hactive : (s.lane l).seq.active = some r)
    (hposting : (s.lane l).seq.state ≠ .posting) :
    abortLane tag l flush reset s =
      (cutAt l r (abortExecuting tag l reset s)).setLane l
        { (cutAt l r (abortExecuting tag l reset s)).lane l with
          seq :=
            { posting ((s.lane l).aborted r s.clock (s.gapAfter r)).seq
                (completion s l .aborted r.entry.tag r.entry.profile r.started 0) with
              abort := some { remaining := (s.lane l).flushed flush, aborted := 1 } } } := by
  have hcaught := abortInHand_of_active (s := abortExecuting tag l reset s) hactive hposting flush
  rw [abortActive_eq (s := abortExecuting tag l reset s) hone] at hcaught
  rw [abortLane_notes hcaught (by simp), State.setLane_lane_self, if_neg nofun, abortNoted_setLane]
  rfl

/-- An entry taken is answered ABORTED by a flush, and the entries behind it are to come (R100, R152). -/
theorem abortLane_of_taken {e : RequestEntry} (hfetch : (s.lane l).seq.state = .fetch)
    (hactive : (s.lane l).seq.active = none) (htaken : (s.lane l).seq.taken = some e) :
    abortLane tag l true reset s =
      (abortExecuting tag l reset s).setLane l
        { s.lane l with
          seq :=
            { posting (s.lane l).seq (completion s l .aborted e.tag e.profile 0 0) with
              abort := some { remaining := (s.lane l).flushed true, aborted := 1 } } } := by
  have hcaught := abortInHand_of_taken (s := abortExecuting tag l reset s) hfetch hactive htaken true
  rw [if_pos rfl, answer_eq_posting] at hcaught
  rw [abortLane_notes hcaught (by simp), State.setLane_lane_self, if_neg nofun, abortNoted_setLane]
  rfl

/-- With no request in hand a flush notes its entries, and an IDLE sequencer begins to read them (R152). -/
theorem abortLane_of_entries
    (hcaught : abortInHand l flush (abortExecuting tag l reset s) = (abortExecuting tag l reset s, 0))
    (hsome : 1 ≤ (s.lane l).flushed flush) :
    abortLane tag l flush reset s =
      if (s.lane l).seq.state = .idle then
        beginFetch l (abortNoted l ((s.lane l).flushed flush) 0 (abortExecuting tag l reset s))
      else abortNoted l ((s.lane l).flushed flush) 0 (abortExecuting tag l reset s) :=
  abortLane_notes hcaught fun h => absurd h.1 (Nat.one_le_iff_ne_zero.mp hsome)

/-- Both commands, their fields in range (R152, R154). -/
theorem exec_laneAbort {adm : AdminQueue} {lane scope : Byte} (hread : EntryRead s adm) (hl : lane.toNat = l.val)
    (hscope : scope.toNat ≤ 1) (tag : Half) (reset : Bool) :
    exec (if reset then .resetLane tag lane else .abortLane tag lane scope) s =
      .next (chooseEvent (abortLane tag l (reset || scope == 1) reset (taken s adm))) := by
  cases reset with
  | true => exact exec_resetLane hread hl tag
  | false =>
    have hlane : within 0 3 lane.toNat = true := within_iff.mpr ⟨Nat.zero_le _, by have := l.isLt; omega⟩
    have hfields : within 0 1 scope.toNat = true := within_iff.mpr ⟨Nat.zero_le _, hscope⟩
    have hpass : firstBad (abortChecks lane scope) = none := by simp [abortChecks, firstBad, hlane, hfields]
    have hflush : isOn scope = (scope == 1) := by
      rw [Bool.eq_iff_iff]
      simp [isOn, BitVec.toNat_eq]
    have htaken := takeChecked_of_pass hread hpass tag (abortLane tag (toFour lane) (isOn scope) false)
    rw [toFour_eq hl, hflush] at htaken
    rw [Bool.false_or, ← htaken, ← toFour_eq hl, ← hflush]
    rfl

end

/-- Settles O27: what the command makes of the lane (`abortLane_of_active`, `abortLane_of_taken`,
`abortLane_of_entries`, `abortLane_at_once`), by the sequencer's state. -/
theorem abortEndsRequests : Obligations.AbortEndsRequests := by
  intro reset tag lane scope s adm l hread hl hscope hone x t sent flush waiting ends atOnce work
  have hends : ∀ u, abortLane tag l flush reset t = u → ends u := by
    rintro u rfl
    exact exec_laneAbort hread hl hscope tag reset
  have honce : abortInHand l flush (abortExecuting tag l reset t) = (abortExecuting tag l reset t, 0) →
      x.flushed flush = 0 → atOnce :=
    fun hcaught hflushed habort => hends _ (abortLane_at_once (s := t) hcaught hflushed habort)
  clear_value ends
  have hwork : ∀ remaining, abortNoted l remaining 0 (abortExecuting tag l reset t) = work x.seq remaining 0 :=
    fun _ => rfl
  have hnotes : ∀ remaining, abortInHand l flush (abortExecuting tag l reset t) = (abortExecuting tag l reset t, 0) →
      x.flushed flush = remaining → 1 ≤ remaining →
      abortLane tag l flush reset t =
        if x.seq.state = .idle then beginFetch l (work x.seq remaining 0) else work x.seq remaining 0 := by
    rintro remaining hcaught rfl hsome
    rw [abortLane_of_entries (s := t) hcaught hsome, ← hwork]
    rfl
  have hresting : x.seq.state = .idle ∨ x.seq.state = .fetch → x.seq.active = none := by
    obtain ⟨-, -, -, -, hresting, -⟩ := id hone
    exact hresting
  have hwaiting : x.queue.waiting = waiting := waiting_eq x.queue
  have hflushed : x.seq.state ≠ .fetch ∨ x.seq.taken ≠ none → x.flushed flush = if flush then waiting else 0 := by
    intro hstate
    rw [← hwaiting, ← toFlush_of_not_reading hstate]
    rfl
  have hlittle : x.seq.state ≠ .fetch → flush = false ∨ waiting = 0 → x.flushed flush = 0 := by
    intro hstate hnothing
    rw [hflushed (.inl hstate)]
    rcases hnothing with hnone | hzero
    · rw [hnone]
      rfl
    · rw [hzero, ite_self]
  have hmuch : x.seq.state ≠ .fetch → flush = true → x.flushed flush = waiting :=
    fun hstate hflush => (hflushed (.inl hstate)).trans (if_pos hflush)
  refine ⟨fun r hactive hposting => ?_,
    fun hfetch => ⟨fun hflush => ?_, fun hflush htaken => ?_, fun e hflush htaken => ?_⟩,
    fun hposting => ⟨fun hnothing => ?_, fun hflush hsome => ?_⟩,
    fun hidle => ⟨fun hnothing => ?_, fun hflush hsome => ?_⟩⟩
  · intro shared ended cut u
    have hplace : (abortExecuting tag l reset t).busSlot (.sequencer l) = s.busSlot (.sequencer l) :=
      State.setBus_busSlot_ne s .idle nofun
    have hcut : abortedAt l r (abortExecuting tag l reset t) = cut := by
      unfold abortedAt
      rw [hplace]
      rfl
    have hu : cutAt l r (abortExecuting tag l reset t) = u := by
      unfold cutAt
      rw [hcut]
      rfl
    have hnotFetch : x.seq.state ≠ .fetch := fun h => by simp [hresting (.inr h)] at hactive
    refine hends _ ((abortLane_of_active (s := t) hone hactive hposting).trans ?_)
    rw [hu, show (t.lane l).flushed flush = _ from hflushed (.inl hnotFetch)]
    rfl
  · have hactive := hresting (.inr hfetch)
    refine honce ?_ (by rw [hflush]; rfl)
    cases htaken : x.seq.taken with
    | none => exact abortInHand_of_untaken (s := abortExecuting tag l reset t) hactive htaken flush
    | some e =>
      rw [abortInHand_of_taken (s := abortExecuting tag l reset t) hfetch hactive htaken flush, hflush]
      rfl
  · have hcaught := abortInHand_of_untaken (s := abortExecuting tag l reset t) (hresting (.inr hfetch)) htaken flush
    refine hends _ ((hnotes (max 1 waiting) hcaught ?_ (Nat.le_max_left ..)).trans (if_neg (by simp [hfetch])))
    rw [hflush, ← hwaiting]
    exact toFlush_of_untaken hfetch htaken
  · have hentries : x.flushed flush = waiting := (hflushed (.inr (by simp [htaken]))).trans (if_pos hflush)
    rw [hflush] at hends hentries
    refine hends _ ((abortLane_of_taken (s := t) hfetch (hresting (.inr hfetch)) htaken).trans ?_)
    rw [show (t.lane l).flushed true = waiting from hentries]
    rfl
  · have hcaught := abortInHand_of_posting (s := abortExecuting tag l reset t) hposting flush
    exact honce hcaught (hlittle (by simp [hposting]) hnothing)
  · have hcaught := abortInHand_of_posting (s := abortExecuting tag l reset t) hposting flush
    exact hends _ ((hnotes waiting hcaught (hmuch (by simp [hposting]) hflush) hsome).trans
      (if_neg (by simp [hposting])))
  · have hcaught := abortInHand_of_idle (s := abortExecuting tag l reset t) hidle (hresting (.inl hidle)) flush
    exact honce hcaught (hlittle (by simp [hidle]) hnothing)
  · have hcaught := abortInHand_of_idle (s := abortExecuting tag l reset t) hidle (hresting (.inl hidle)) flush
    refine hends _ ((hnotes waiting hcaught (hmuch (by simp [hidle]) hflush) hsome).trans ((if_pos hidle).trans ?_))
    rw [asked_eq_askBus, ← hwork]
    unfold beginFetch abortNoted
    simp only [State.modSeq_def, State.setLane_lane_self, State.setLane_setLane]
    rfl

end Sys2Proof.Machine
end
